-- ==== Sys2Proof/Word.lean ====
section
/-! DEFINITION. The word types of the block: bytes, 32-bit host words and 64-bit dividers. -/

namespace Sys2Proof

/-- A byte: one image byte, one byte on the two-wire bus (R60, R66). -/
abbrev Byte := BitVec 8

/-- A 32-bit host word: an input register, the CMD word, the data of a host access (R21, R81). -/
abbrev Word := BitVec 32

/-- A 64-bit divider: FB and OD1..OD4 (R22). -/
abbrev DWord := BitVec 64

/-- The four bytes of a word, least significant first. -/
def wordBytes (d : Word) : List Byte :=
  [d.extractLsb' 0 8, d.extractLsb' 8 8, d.extractLsb' 16 8, d.extractLsb' 24 8]

end Sys2Proof
end

