-- ==== Sys2Proof/Config.lean ====
section
/-! DEFINITION. The configuration fixed for the life of the block (R40), and its open parameters. -/

namespace Sys2Proof

/-- CHIP_FLAGS: the five chip-behaviour flags whose bit positions the spec gives (R13). -/
structure ChipFlags where
  shutdownEn : Bool
  sleep      : Bool
  clkinEn    : Bool
  xtalEn     : Bool
  calStart   : Bool
  deriving DecidableEq, Repr, Inhabited

/-- The parameters of R40. They are not state: no step changes one. -/
structure Config where
  /-- CHIP_TEMPLATE: the byte of register r, for r = 0x00..0x69 (R12). -/
  template      : Nat → Byte
  /-- CHIP_FLAGS (R13). -/
  flags         : ChipFlags
  /-- T_SETTLE in nanoseconds (R9): no rule of the model reads it, since the model has no clock (R262; log 10). -/
  settleNs      : Nat
  /-- CH_BASE(n) for n = 1..4 (R10). -/
  chBase        : Nat → Nat
  /-- SD_SHIFT: the place of the sigma-delta code in register 0x18 (R11). -/
  sdShift       : Nat
  /-- OD_FRAC_LOW_MASK: the mask of the fourth fraction byte (R14). -/
  odFracLowMask : Byte
  /-- DEV_ADDR: the 7-bit address of the target device (R8). -/
  devAddr       : BitVec 7

/-- CHIP_TEMPLATE is OPEN (R12, N1; log 8): no value of it can be proved. -/
opaque Config.chipTemplate : Nat → Byte

/-- CHIP_FLAGS is OPEN (R13; log 8): no value of it can be proved. -/
opaque Config.chipFlags : ChipFlags

/-- T_SETTLE is OPEN above its lower bound of 1 ms (R9, D17; log 8): how far above is not known. -/
opaque Config.settleExcessNs : Nat

end Sys2Proof
end

