-- ==== Sys2Proof/Syntax.lean ====
section
/-! DEFINITION. The instructions: one constructor for each mnemonic of spec/opcode_table.json (R3, R94),
and the encoded forms in which they are presented (R80). -/

namespace Sys2Proof

/-- Host operations, the four command codes, the steps of the control states, and the six bus
transactions (R3). -/
inductive Instr where
  -- host operations (42, section 1)
  /-- HWR_IN: host write of the input register at address `a` (R180). -/
  | hwrIn (a : BitVec 8) (d : Word)
  /-- HWR_CMD: host write of CMD with data `d` (R181). -/
  | hwrCmd (d : Word)
  /-- HRD: host read of address `a` (R182). -/
  | hrd (a : BitVec 8)
  -- command words (42, section 2)
  | cmdNop
  | cmdConfigure
  | cmdCalibrate
  | cmdRsvd
  -- control-state steps (42, section 3; 43)
  | stepCfgIssue
  | stepCfgDone
  | stepRdctrlIssue
  | stepRdctrlDone
  | stepClr1Issue
  | stepClr1Done
  | stepWait1
  | stepSetIssue
  | stepSetDone
  | stepWait2
  | stepClr2Issue
  | stepClr2Done
  | stepWait3
  | stepRdresIssue
  | stepRdresDone
  /-- STEP_RSVD: STATE holds the reserved code `code` (R31). -/
  | stepRsvd (code : BitVec 4)
  -- bus transactions (R86); the operands are the bits the encoding leaves free
  /-- TX_CFG: `payload` is the 106 bytes after the register select 0x00. -/
  | txCfg (payload : List Byte)
  | txRdctrl
  /-- TX_CLR1: `v` is the seven low bits of the payload. -/
  | txClr1 (v : BitVec 7)
  | txSet (v : BitVec 7)
  | txClr2 (v : BitVec 7)
  | txRdres
  deriving DecidableEq, Repr

/-- The encoded forms of R80. -/
inductive Form where
  | hostWrite
  | hostRead
  | cmdWord
  | controlStep
  | busWrite
  | busWriteRead
  deriving DecidableEq, Repr

/-- An instruction as it is presented: its form, the control state a bus transaction is issued in
(R86, "issued in state"; 0 for the other forms), and its bytes. How the host forms are laid out as
bytes is the model's own (log 5). -/
structure Encoded where
  form     : Form
  issuedIn : BitVec 4
  bytes    : List Byte
  deriving DecidableEq, Repr

end Sys2Proof
end

