-- ==== Sys2Proof/WellFormed.lean ====
section
/-! DEFINITION. Which instruction terms the encodings can carry. -/

namespace Sys2Proof

/-- The addresses of the host register map that a host may read (R36): the inputs, STATUS, the results
and calibration registers, and the image. -/
def readableAddress (a : BitVec 8) : Bool :=
  a.toNat ≤ 5 || (7 ≤ a.toNat && a.toNat ≤ 0x15) || (0x40 ≤ a.toNat && a.toNat ≤ 0xAA)

/-- The addresses of the six input registers (R36, R180). -/
def inputAddress (a : BitVec 8) : Bool := a.toNat ≤ 5

/-- The operand checks: an input address (R180), a readable address (R182), a reserved STATE code (R31),
a payload of 106 bytes (R86). -/
def Instr.wellFormed : Instr → Bool
  | .hwrIn a _      => inputAddress a
  | .hwrCmd _       => true
  | .hrd a          => readableAddress a
  | .cmdNop         => true
  | .cmdConfigure   => true
  | .cmdCalibrate   => true
  | .cmdRsvd        => true
  | .stepCfgIssue   => true
  | .stepCfgDone    => true
  | .stepRdctrlIssue => true
  | .stepRdctrlDone => true
  | .stepClr1Issue  => true
  | .stepClr1Done   => true
  | .stepWait1      => true
  | .stepSetIssue   => true
  | .stepSetDone    => true
  | .stepWait2      => true
  | .stepClr2Issue  => true
  | .stepClr2Done   => true
  | .stepWait3      => true
  | .stepRdresIssue => true
  | .stepRdresDone  => true
  | .stepRsvd code  => 10 ≤ code.toNat
  | .txCfg payload  => payload.length == 106
  | .txRdctrl       => true
  | .txClr1 _       => true
  | .txSet _        => true
  | .txClr2 _       => true
  | .txRdres        => true

end Sys2Proof
end

