-- ==== Sys2Proof/Decode.lean ====
section
/-! DEFINITION. The decoder of the encoded forms (R80 to R87), total on any bytes and rejecting by name,
the encoder, and the reading of a word as spec/opcode_table.json numbers it. -/

namespace Sys2Proof

/-- Why an encoded form has no instruction. -/
inductive DecodeError where
  /-- The form has another number of bytes (R80, R91). -/
  | badLength
  /-- A host write of a read-only register (R37). -/
  | writeReadOnly (a : BitVec 8)
  /-- A host access to a reserved address (R37). -/
  | reservedAddress (a : BitVec 8)
  /-- A host read of CMD (R37). -/
  | readOfCmd
  /-- An input-register write whose address is not one of 0x00..0x05 (R180). -/
  | notAnInput (a : BitVec 8)
  /-- A CMD word with any of bits [31:2] set (R37, R82). -/
  | cmdReservedBits (d : Word)
  /-- The block is in IDLE: it has no step (R30). -/
  | blockIdle
  /-- TXP = 1 and RESP = EMPTY, or TEXP = 0 in a wait state: the block has no step, it holds (R83). -/
  | blockHolds
  /-- Bit 7 of the control-step byte, which the model's layout leaves unused, is set (log 5). -/
  | stepReservedBit
  /-- Bytes that are none of the six transactions of R86 in the state that would issue them. -/
  | notATransaction
  deriving DecidableEq, Repr

/-- The word whose bytes, least significant first, are d0, d1, d2, d3. -/
def wordOfBytes (d0 d1 d2 d3 : Byte) : Word := d3 ++ d2 ++ d1 ++ d0

/-- How R37 refuses a host write that is neither of an input register nor of CMD. -/
def writeRefusal (a : BitVec 8) : DecodeError :=
  if readableAddress a then .writeReadOnly a else .reservedAddress a

/-- How R37 refuses a host read of an address that is not readable. -/
def readRefusal (a : BitVec 8) : DecodeError :=
  if a = 0x06 then .readOfCmd else .reservedAddress a

/-- `HostWrite(A, D)` as the byte A and the four bytes of D (R81; layout: log 5). -/
def decodeHostWrite (bytes : List Byte) : Except DecodeError Instr :=
  match bytes with
  | [a, d0, d1, d2, d3] =>
      if inputAddress a then .ok (.hwrIn a (wordOfBytes d0 d1 d2 d3))
      else if a = 0x06 then .ok (.hwrCmd (wordOfBytes d0 d1 d2 d3))
      else .error (writeRefusal a)
  | _ => .error .badLength

/-- `HostRead(A)` as the byte A (R81). -/
def decodeHostRead (bytes : List Byte) : Except DecodeError Instr :=
  match bytes with
  | [a] => if readableAddress a then .ok (.hrd a) else .error (readRefusal a)
  | _ => .error .badLength

/-- The command of a CMD word (R82): bits [31:2] must be 0, bits [1:0] are CODE. -/
def decodeCmd (d : Word) : Except DecodeError Instr :=
  if d.extractLsb' 2 30 = 0 then
    match (d.extractLsb' 0 2).toNat with
    | 0 => .ok .cmdNop
    | 1 => .ok .cmdConfigure
    | 2 => .ok .cmdCalibrate
    | _ => .ok .cmdRsvd
  else .error (.cmdReservedBits d)

/-- The CMD word as four bytes. -/
def decodeCmdWord (bytes : List Byte) : Except DecodeError Instr :=
  match bytes with
  | [d0, d1, d2, d3] => decodeCmd (wordOfBytes d0 d1 d2 d3)
  | _ => .error .badLength

/-- The wait states CAL_WAIT1, CAL_WAIT2 and CAL_WAIT3 (R30, R261). -/
def waitState (ctl : BitVec 4) : Bool := ctl == 4 || ctl == 6 || ctl == 8

/-- In a transaction state, TXP = 0 selects "issue", and TXP = 1 with RESP != EMPTY selects "complete" (R83). -/
def transactionStep (txp ready : Bool) (issue done : Instr) : Except DecodeError Instr :=
  if txp then (if ready then .ok done else .error .blockHolds) else .ok issue

/-- In a wait state, TEXP = 1 selects "leave" (R83). -/
def waitStep (texp : Bool) (leave : Instr) : Except DecodeError Instr :=
  if texp then .ok leave else .error .blockHolds

/-- The step the block takes: STATE acts as its opcode, with TXP, RESP and TEXP (R30, R83). -/
def selectStep (ctl : BitVec 4) (txp ready texp : Bool) : Except DecodeError Instr :=
  match ctl.toNat with
  | 0 => .error .blockIdle
  | 1 => transactionStep txp ready .stepCfgIssue .stepCfgDone
  | 2 => transactionStep txp ready .stepRdctrlIssue .stepRdctrlDone
  | 3 => transactionStep txp ready .stepClr1Issue .stepClr1Done
  | 4 => waitStep texp .stepWait1
  | 5 => transactionStep txp ready .stepSetIssue .stepSetDone
  | 6 => waitStep texp .stepWait2
  | 7 => transactionStep txp ready .stepClr2Issue .stepClr2Done
  | 8 => waitStep texp .stepWait3
  | 9 => transactionStep txp ready .stepRdresIssue .stepRdresDone
  | _ => .ok (.stepRsvd ctl)

/-- The control step as one byte: bits [3:0] STATE, bit 4 TXP, bit 5 RESP != EMPTY, bit 6 TEXP
(fields of R80; layout: log 5). -/
def controlStepByte (ctl : BitVec 4) (txp ready texp : Bool) : Byte :=
  0#1 ++ BitVec.ofBool texp ++ BitVec.ofBool ready ++ BitVec.ofBool txp ++ ctl

/-- The step a control-step byte selects. -/
def decodeControlStep (bytes : List Byte) : Except DecodeError Instr :=
  match bytes with
  | [b] =>
      if b.getLsbD 7 then .error .stepReservedBit
      else selectStep (b.extractLsb' 0 4) (b.getLsbD 4) (b.getLsbD 5) (b.getLsbD 6)
  | _ => .error .badLength

/-- The two-byte writes of register 0x1C (R86): top bit 0 in CAL_CLR1 and CAL_CLR2, 1 in CAL_SET. -/
def decodeCalWrite (st : BitVec 4) (b : Byte) : Except DecodeError Instr :=
  match st.toNat, b.getLsbD 7 with
  | 3, false => .ok (.txClr1 (b.extractLsb' 0 7))
  | 5, true  => .ok (.txSet (b.extractLsb' 0 7))
  | 7, false => .ok (.txClr2 (b.extractLsb' 0 7))
  | _, _     => .error .notATransaction

/-- A WRITE issued in state `st` (R84, R86). -/
def decodeBusWrite (st : BitVec 4) (bytes : List Byte) : Except DecodeError Instr :=
  match bytes with
  | [r, b] => if r = 0x1C then decodeCalWrite st b else .error .notATransaction
  | r :: payload =>
      if st = 1 ∧ r = 0x00 ∧ payload.length = 106 then .ok (.txCfg payload) else .error .notATransaction
  | [] => .error .notATransaction

/-- A WRITE_READ issued in state `st` (R85, R86). -/
def decodeBusWriteRead (st : BitVec 4) (bytes : List Byte) : Except DecodeError Instr :=
  if st = 2 ∧ bytes = [0x1C] then .ok .txRdctrl
  else if st = 9 ∧ bytes = [0x99] then .ok .txRdres
  else .error .notATransaction

/-- The instruction an encoded form stands for (R80), or why it stands for none. -/
def decode (e : Encoded) : Except DecodeError Instr :=
  match e.form with
  | .hostWrite    => decodeHostWrite e.bytes
  | .hostRead     => decodeHostRead e.bytes
  | .cmdWord      => decodeCmdWord e.bytes
  | .controlStep  => decodeControlStep e.bytes
  | .busWrite     => decodeBusWrite e.issuedIn e.bytes
  | .busWriteRead => decodeBusWriteRead e.issuedIn e.bytes

/-- The encoded form of a control step. -/
def encodeStep (ctl : BitVec 4) (txp ready texp : Bool) : Encoded :=
  ⟨.controlStep, 0, [controlStepByte ctl txp ready texp]⟩

/-- The encoded form of a command word with the given CODE (R82). -/
def encodeCmd (d : Word) : Encoded := ⟨.cmdWord, 0, wordBytes d⟩

/-- The encoded form of a calibration write: register select 0x1C, then the top bit and the seven `v` bits (R86). -/
def encodeCalWrite (st : BitVec 4) (top : BitVec 1) (v : BitVec 7) : Encoded :=
  ⟨.busWrite, st, [0x1C, top ++ v]⟩

/-- The encoder, written from the same tables (R80, R82, R83, R86). -/
def encode : Instr → Encoded
  | .hwrIn a d       => ⟨.hostWrite, 0, a :: wordBytes d⟩
  | .hwrCmd d        => ⟨.hostWrite, 0, 0x06 :: wordBytes d⟩
  | .hrd a           => ⟨.hostRead, 0, [a]⟩
  | .cmdNop          => encodeCmd 0b00
  | .cmdConfigure    => encodeCmd 0b01
  | .cmdCalibrate    => encodeCmd 0b10
  | .cmdRsvd         => encodeCmd 0b11
  | .stepCfgIssue    => encodeStep 1 false false false
  | .stepCfgDone     => encodeStep 1 true true false
  | .stepRdctrlIssue => encodeStep 2 false false false
  | .stepRdctrlDone  => encodeStep 2 true true false
  | .stepClr1Issue   => encodeStep 3 false false false
  | .stepClr1Done    => encodeStep 3 true true false
  | .stepWait1       => encodeStep 4 false false true
  | .stepSetIssue    => encodeStep 5 false false false
  | .stepSetDone     => encodeStep 5 true true false
  | .stepWait2       => encodeStep 6 false false true
  | .stepClr2Issue   => encodeStep 7 false false false
  | .stepClr2Done    => encodeStep 7 true true false
  | .stepWait3       => encodeStep 8 false false true
  | .stepRdresIssue  => encodeStep 9 false false false
  | .stepRdresDone   => encodeStep 9 true true false
  | .stepRsvd code   => encodeStep code false false false
  | .txCfg payload   => ⟨.busWrite, 1, 0x00 :: payload⟩
  | .txRdctrl        => ⟨.busWriteRead, 2, [0x1C]⟩
  | .txClr1 v        => encodeCalWrite 3 0 v
  | .txSet v         => encodeCalWrite 5 1 v
  | .txClr2 v        => encodeCalWrite 7 0 v
  | .txRdres         => ⟨.busWriteRead, 9, [0x99]⟩

/-- The `n` bytes of the number `w`, most significant first: how the table's BUS bit strings are written (R86). -/
def bigEndian : Nat → Nat → List Byte
  | 0, _ => []
  | n + 1, w => bigEndian n (w / 256) ++ [BitVec.ofNat 8 w]

/-- The control-step form of a STEP row's 4-bit STATE. The row's TXP, RESP and TEXP condition has no bits
in the table; it is taken as TXP = 0, and TEXP = 1 in a wait state (log 6). -/
def tableStep (w : Nat) : Encoded :=
  encodeStep (BitVec.ofNat 4 w) false false (waitState (BitVec.ofNat 4 w))

/-- The forms that the table's number `w` of `nbits` bits can be, in the order in which they are tried (log 6).
The table's numbers do not name the interface they arrive on, so one number can fit several rows. -/
def tableCandidates (nbits w : Nat) : List Encoded :=
  match nbits with
  | 8 =>
      (if w < 16 then [tableStep w] else []) ++
        [⟨.busWriteRead, 2, [BitVec.ofNat 8 w]⟩, ⟨.busWriteRead, 9, [BitVec.ofNat 8 w]⟩,
         ⟨.hostWrite, 0, BitVec.ofNat 8 w :: wordBytes 0⟩, ⟨.hostRead, 0, [BitVec.ofNat 8 w]⟩]
  | 16 =>
      [⟨.busWrite, 3, bigEndian 2 w⟩, ⟨.busWrite, 5, bigEndian 2 w⟩,
       ⟨.busWrite, 3, (bigEndian 2 w).reverse⟩, ⟨.busWrite, 5, (bigEndian 2 w).reverse⟩]
  | 32 => [⟨.cmdWord, 0, wordBytes (BitVec.ofNat 32 w)⟩]
  | 856 => [⟨.busWrite, 1, bigEndian 107 w⟩]
  | _ => []

/-- Whether the decoder reads an instruction from a form. -/
def decodes (e : Encoded) : Bool :=
  match decode e with
  | .ok _ => true
  | .error _ => false

/-- The first form of a table word that the decoder reads. -/
def tableEncoded (nbits w : Nat) : Option Encoded :=
  (tableCandidates nbits w).find? decodes

/-- The instruction the decoder reads from a word of spec/opcode_table.json. -/
def decodeTableWord (nbits w : Nat) : Option Instr :=
  match tableEncoded nbits w with
  | some e => (decode e).toOption
  | none => none

end Sys2Proof
end

