-- ==== Sys2Proof/Machine/State.lean ====
section
/-! DEFINITION. The state of the block (R20, R39), as plain data, and the reasons a step can stop.
R20 gives the block's state in full; the fields after the rule "the model's own" below are not the
block's: they hold what its surroundings do (R17, R183) and what the model records (R250). -/

namespace Sys2Proof.Machine

/-- A register with R38's mark: `written` is false until a rule writes it. An unwritten register still holds
a value, its reset value (log 1). -/
@[ext]
structure Reg (w : Nat) where
  val     : BitVec w
  written : Bool
  deriving DecidableEq, Repr

/-- The image buffer: a list of (index, byte) in the canonical form of `Memory.wf` (R60; log 2). -/
abbrev Memory := List Host.Cell

/-- The kind of a bus request (R66). -/
inductive TxKind where
  | write
  | writeRead
  deriving DecidableEq, Repr

/-- TXREQ: a bus request (R66). Its rlen is a function of its kind (`TxReq.rlen`; log 15). -/
structure TxReq where
  kind   : TxKind
  addr7  : BitVec 7
  wbytes : List Byte
  deriving DecidableEq, Repr

/-- RESP: the response slot (R33). -/
inductive Resp where
  | empty
  | ok (rbytes : List Byte)
  | fail
  deriving DecidableEq, Repr

/-- What the transport agent brings to its turn: OK, with the byte the target puts on the bus for a read, or
FAIL (R66, R193; log 12). -/
inductive Draw where
  | ok (b : Byte)
  | fail
  deriving DecidableEq, Repr

/-- Which agent moves next (R17, R183), and what it brings. -/
inductive Turn where
  /-- The instruction of an encoded form: a host operation, or a step or transaction of the block named by
  its encoding. -/
  | present (e : Encoded)
  /-- The block takes the step that its own registers select (R83). -/
  | block
  /-- The transport answers (R193). -/
  | transport (d : Draw)
  /-- Time ends a settle delay (R262). -/
  | time
  /-- The block is reset (R281). -/
  | reset
  deriving DecidableEq, Repr

/-- The stored fields of STATUS (R24). BUSY and STATE are computed on each read (R25). -/
@[ext]
structure Status where
  /-- RESULT (R26). -/
  result    : BitVec 3
  /-- LASTCMD: false is CONFIGURE, true is CALIBRATE. -/
  lastCmd   : Bool
  /-- STEP (R27). -/
  step      : BitVec 3
  /-- ZERO_INPUT (R28). -/
  zeroInput : BitVec 3
  /-- CAL_INDET (R29). -/
  calIndet  : Bool
  /-- PLAN_VALID (R29). -/
  planValid : Bool
  /-- CAL_VALID (R29). -/
  calValid  : Bool
  deriving DecidableEq, Repr

/-- The model fault of R38 and R250, fault(UnwrittenRead): which access read an unwritten register. -/
inductive UnwrittenRead where
  /-- A host read of address `a` (R182). -/
  | hostRead (a : BitVec 8)
  /-- A CONFIGURE accepted while an input register was unwritten (R185). -/
  | configure
  deriving DecidableEq, Repr

/-- The faults that end a run. -/
inductive Fault where
  /-- STATE holds a code 10..15: the block has no step (R31). Raised by STEP_RSVD, also where it is
  presented while STATE does not hold `code` (log 19). Safe: the hardware cannot reach these codes. -/
  | reservedState (code : BitVec 4)
  /-- An OK response whose length is not the request's rlen: no rule handles one (R231; log 12). Raised by the complete
  steps. Safe: no reachable state holds such a response (R193). -/
  | responseLength
  deriving DecidableEq, Repr

/-- The refusals: host protocol violations (R37, R187, R188, R250; log 11), and a presented instruction that is not
one the machine takes in its state. -/
inductive Refusal where
  /-- An instruction without a meaning. Raised by exec's refused arms only. Safe. -/
  | notModelled (mnemonic : String)
  /-- An access or encoding without an instruction (R37, R82, R90). Raised by step on a form the decoder
  rejects, and by HWR_IN, HWR_CMD and HRD. Safe. -/
  | access (why : DecodeError)
  /-- A CMD write while STATE != IDLE (R188). Raised by HWR_CMD and the CMD rows. Safe. -/
  | busy
  /-- CMD CODE 0b11 (R187). Raised by HWR_CMD and CMD_RSVD. Safe. -/
  | reservedCode
  /-- A control step or transaction presented in a state whose registers do not enable it (R30, R68, R83; log 7).
  Raised by the TX rows and the STEP rows but STEP_RSVD (log 19). Safe: it is no step of the block there. -/
  | notEnabled
  deriving DecidableEq, Repr

/-- The state of the machine. -/
@[ext]
structure State where
  /-- REF_HZ (R21). -/
  refHz  : Reg 32
  /-- VCO_HZ (R21). -/
  vcoHz  : Reg 32
  /-- OUT1_HZ (R21). -/
  out1Hz : Reg 32
  /-- OUT2_HZ (R21). -/
  out2Hz : Reg 32
  /-- OUT3_HZ (R21). -/
  out3Hz : Reg 32
  /-- OUT4_HZ (R21). -/
  out4Hz : Reg 32
  /-- FB, the feedback divider (R22). -/
  fb     : Reg 64
  /-- OD1 (R22). -/
  od1    : Reg 64
  /-- OD2 (R22). -/
  od2    : Reg 64
  /-- OD3 (R22). -/
  od3    : Reg 64
  /-- OD4 (R22). -/
  od4    : Reg 64
  /-- SD, the sigma-delta order code (R22). -/
  sd     : Reg 2
  /-- CAL_V (R23). -/
  calV   : Reg 8
  /-- CAL_S (R23). -/
  calS   : Reg 8
  /-- VCO_BAND (R23). -/
  vcoBand : Reg 5
  /-- The stored fields of STATUS (R24). -/
  status : Status
  /-- STATE, the control-state register (R30). -/
  ctl    : BitVec 4
  /-- IMAGE[0..106] (R35, R60). -/
  image  : Memory
  /-- R38's mark of the image: all 107 bytes are written in one step (R60), so one mark serves (log 16). -/
  imageWritten : Bool
  /-- TXP (R33). -/
  txp    : Bool
  /-- TXREQ (R33), meaningful while TXP = 1. -/
  txreq  : TxReq
  /-- RESP (R33). -/
  resp   : Resp
  /-- TEXP (R33). -/
  texp   : Bool
  -- the model's own
  /-- The data D that the last host read returned (R182): the host's, not the block's (log 13). -/
  hostData : Word
  /-- The first fault(UnwrittenRead) recorded, never cleared (R38, R250; log 1). -/
  unwrittenRead : Option UnwrittenRead
  /-- The turns to come, first first (R183). When none is left, the turns are the block's (log 4). -/
  agenda : List Turn
  deriving DecidableEq, Repr

/-- A register after reset (R39; its value 0: log 1). -/
def Reg.unwritten (w : Nat) : Reg w := ⟨0, false⟩

/-- STATUS after reset (R39). -/
def Status.reset : Status := ⟨0, false, 0, 0, false, false, false⟩

/-- The value TXREQ holds while nothing has been requested; no rule reads it (R33, R39; log 3). -/
def TxReq.reset : TxReq := ⟨.write, 0x6A, [0x00]⟩

/-- The machine right after reset (R39, R280), with no turn given. -/
def State.reset : State where
  refHz := .unwritten 32
  vcoHz := .unwritten 32
  out1Hz := .unwritten 32
  out2Hz := .unwritten 32
  out3Hz := .unwritten 32
  out4Hz := .unwritten 32
  fb := .unwritten 64
  od1 := .unwritten 64
  od2 := .unwritten 64
  od3 := .unwritten 64
  od4 := .unwritten 64
  sd := .unwritten 2
  calV := .unwritten 8
  calS := .unwritten 8
  vcoBand := .unwritten 5
  status := .reset
  ctl := 0
  image := []
  imageWritten := false
  txp := false
  txreq := .reset
  resp := .empty
  texp := false
  hostData := 0
  unwrittenRead := none
  agenda := []

/-- What a meaning answers. -/
abbrev Answer := Host.Outcome State Fault Refusal

end Sys2Proof.Machine
end

