-- ==== Sys2Proof/Machine/Flags.lean ====
section
/-! DEFINITION. The codes of STATE and of STATUS's fields, and every computation of STATUS (R24 to R30).
The block has no other flags (R41). -/

namespace Sys2Proof.Machine

/-- STATE codes (R30). -/
abbrev Ctl.idle      : BitVec 4 := 0
abbrev Ctl.cfgWrite  : BitVec 4 := 1
abbrev Ctl.calRdctrl : BitVec 4 := 2
abbrev Ctl.calClr1   : BitVec 4 := 3
abbrev Ctl.calWait1  : BitVec 4 := 4
abbrev Ctl.calSet    : BitVec 4 := 5
abbrev Ctl.calWait2  : BitVec 4 := 6
abbrev Ctl.calClr2   : BitVec 4 := 7
abbrev Ctl.calWait3  : BitVec 4 := 8
abbrev Ctl.calRdres  : BitVec 4 := 9

/-- RESULT codes (R26). -/
abbrev ResultCode.none           : BitVec 3 := 0
abbrev ResultCode.ok             : BitVec 3 := 1
abbrev ResultCode.transportError : BitVec 3 := 2
abbrev ResultCode.domainError    : BitVec 3 := 3

/-- STATUS.BUSY: computed on each read as STATE != IDLE (R25). -/
def State.busy (s : State) : Bool := s.ctl != Ctl.idle

/-- STATUS as the host reads it (R24): reserved 31:18, STATE 17:14, CAL_VALID 13, PLAN_VALID 12, CAL_INDET 11,
ZERO_INPUT 10:8, STEP 7:5, LASTCMD 4, RESULT 3:1, BUSY 0. -/
def State.statusWord (s : State) : Word :=
  0#14 ++ s.ctl ++ BitVec.ofBool s.status.calValid ++ BitVec.ofBool s.status.planValid
    ++ BitVec.ofBool s.status.calIndet ++ s.status.zeroInput ++ s.status.step
    ++ BitVec.ofBool s.status.lastCmd ++ s.status.result ++ BitVec.ofBool s.busy

/-- What the accepting step of every command does to STATUS: LASTCMD says which command, RESULT becomes NONE, and
STEP, ZERO_INPUT and CAL_INDET become 0 (R26, R29, R185, R186). -/
def Status.accept (f : Status) (calibrate : Bool) : Status :=
  { f with lastCmd := calibrate, result := ResultCode.none, step := 0, zeroInput := 0, calIndet := false }

/-- A TransportError at step `code`: RESULT and STEP, and CAL_INDET for the calibration writes (R251, R236). -/
def Status.transportError (f : Status) (code : BitVec 3) (indet : Bool) : Status :=
  { f with result := ResultCode.transportError, step := code, calIndet := f.calIndet || indet }

/-- A DomainError on input `k`: RESULT, ZERO_INPUT, and PLAN_VALID becomes 0 (R252, R185). -/
def Status.domainError (f : Status) (k : BitVec 3) : Status :=
  { f with result := ResultCode.domainError, zeroInput := k, planValid := false }

/-- A configuration accepted: PLAN_VALID becomes 1 (R29, R185). -/
def Status.planned (f : Status) : Status := { f with planValid := true }

/-- A calibration accepted: CAL_VALID becomes 0 (R29, R186). -/
def Status.uncalibrated (f : Status) : Status := { f with calValid := false }

/-- A command ended with OK (R191). -/
def Status.succeed (f : Status) : Status := { f with result := ResultCode.ok }

/-- A calibration ended with OK: CAL_VALID becomes 1 (R29, R232). -/
def Status.calibrated (f : Status) : Status := { f with result := ResultCode.ok, calValid := true }

end Sys2Proof.Machine
end

