-- ==== Sys2Proof/Machine/Calculator.lean ====
section
/-! DEFINITION. The divider-ratio calculator (R110 to R124): DCHK, FBDIV, SDSEL and ODIV, as functions of the
six inputs (R123). All arithmetic is unsigned (R121). -/

namespace Sys2Proof.Machine

/-- The six inputs a CONFIGURE reads (R21). -/
structure Request where
  ref : Word
  vco : Word
  out1 : Word
  out2 : Word
  out3 : Word
  out4 : Word
  deriving DecidableEq, Repr

/-- What the calculator computes from them (R123). -/
structure Plan where
  fb  : DWord
  sd  : BitVec 2
  od1 : DWord
  od2 : DWord
  od3 : DWord
  od4 : DWord
  deriving DecidableEq, Repr

/-- The inputs in the order in which DCHK looks at them (R111). -/
def Request.inputs (r : Request) : List Word := [r.ref, r.vco, r.out1, r.out2, r.out3, r.out4]

/-- The index, counted from `k`, of the first zero of a list of inputs. -/
def firstZero (k : BitVec 3) : List Word → Option (BitVec 3)
  | [] => none
  | x :: xs => if x = 0 then some k else firstZero (k + 1) xs

/-- DCHK: the ZERO_INPUT code of the first zero input, if there is one (R110, R111). -/
def dchk (r : Request) : Option (BitVec 3) := firstZero 0 r.inputs

/-- FBDIV: `(zext_64(VCO_HZ) << 32) // zext_64(REF_HZ)` (R112). -/
def fbdiv (ref vco : Word) : DWord := (vco.setWidth 64 <<< 32) / ref.setWidth 64

/-- SDSEL: Off if all 32 fraction bits of FB are 0, else Order3 (R115; codes R11). -/
def sdsel (fb : DWord) : BitVec 2 := if fb &&& 0xFFFFFFFF = 0 then 0 else 3

/-- ODIV: `(zext_64(VCO_HZ) << 31) // zext_64(OUTn_HZ)` (R118). -/
def odiv (vco out : Word) : DWord := (vco.setWidth 64 <<< 31) / out.setWidth 64

/-- FBDIV, SDSEL and ODIV(1..4) on one request (R185). -/
def Request.plan (r : Request) : Plan where
  fb := fbdiv r.ref r.vco
  sd := sdsel (fbdiv r.ref r.vco)
  od1 := odiv r.vco r.out1
  od2 := odiv r.vco r.out2
  od3 := odiv r.vco r.out3
  od4 := odiv r.vco r.out4

end Sys2Proof.Machine
end

