-- ==== Sys2Proof/Machine/Encoder.lean ====
section
/-! DEFINITION. The register-image encoder PACK (R140 to R159), as a function of the plan and the
configuration (R158). "Register r" is image byte r + 1 (R62). -/

namespace Sys2Proof.Machine

/-- The number of bytes of the image, IMAGE_LEN (R8, R60). -/
abbrev imageLength : Nat := 107

/-- CH_BASE(n) = 0x11 + 0x10*n, the default of R10 (log 9). -/
def defaultChBase (n : Nat) : Nat := 0x11 + 0x10 * n

/-- The configuration of the block (R40): the open parameters, with the spec's defaults for the others (log 9). -/
def chip : Config where
  template := Config.chipTemplate
  flags := Config.chipFlags
  settleNs := 1000000 + Config.settleExcessNs
  chBase := defaultChBase
  sdShift := 0
  odFracLowMask := 0xFC
  devAddr := 0x6A

/-- A flag as a byte with the flag at bit `i`. -/
def flagBit (b : Bool) (i : Nat) : Byte := if b then 1#8 <<< i else 0

/-- Register 0x10: XTAL_EN, CLKIN_EN, template bits 5:2, SLEEP, SHUTDOWN_EN (R143). -/
def flagsRegister (c : Config) : Byte :=
  (c.template 0x10 &&& 0x3C) ||| flagBit c.flags.xtalEn 7 ||| flagBit c.flags.clkinEn 6
    ||| flagBit c.flags.sleep 1 ||| flagBit c.flags.shutdownEn 0

/-- Register 0x18: FB[35:32], two zero bits, and the SD code (R146). -/
def sigmaDeltaRegister (c : Config) (p : Plan) : Byte :=
  ((p.fb.extractLsb' 32 4).setWidth 8 <<< 4) ||| (p.sd.setWidth 8 <<< c.sdShift)

/-- Register 0x1C: CAL_START and template bits 6:0 (R148). -/
def calControlRegister (c : Config) : Byte :=
  (c.template 0x1C &&& 0x7F) ||| flagBit c.flags.calStart 7

/-- The computed registers of a channel whose block starts at `b`: fraction (R151), then integer (R152). -/
def channelRegisters (c : Config) (b : Nat) (od : DWord) : List (Nat × Byte) :=
  [(b + 0x1, od.extractLsb' 24 8), (b + 0x2, od.extractLsb' 16 8),
   (b + 0x3, od.extractLsb' 8 8), (b + 0x4, od.extractLsb' 0 8 &&& c.odFracLowMask),
   (b + 0xC, od.extractLsb' 36 8), (b + 0xD, (od.extractLsb' 32 4).setWidth 8 <<< 4)]

/-- The registers PACK computes, in the order of its assignments (R140). -/
def computedRegisters (c : Config) (p : Plan) : List (Nat × Byte) :=
  [(0x10, flagsRegister c), (0x17, p.fb.extractLsb' 36 8), (0x18, sigmaDeltaRegister c p),
   (0x19, p.fb.extractLsb' 24 8), (0x1A, p.fb.extractLsb' 16 8), (0x1B, p.fb.extractLsb' 8 8),
   (0x1C, calControlRegister c)]
    ++ channelRegisters c (c.chBase 1) p.od1 ++ channelRegisters c (c.chBase 2) p.od2
    ++ channelRegisters c (c.chBase 3) p.od3 ++ channelRegisters c (c.chBase 4) p.od4

/-- The byte PACK gives register `r`: the last assignment to it, and the template's byte where there is none (R140:
"the later assignment to a register wins"). -/
def packRegister (c : Config) (p : Plan) (r : Nat) : Byte :=
  ((computedRegisters c p).reverse.lookup r).getD (c.template r)

/-- The byte PACK gives image index `i`: 0x00 at index 0 (R142), and register i - 1 at index i (R62). -/
def packByte (c : Config) (p : Plan) : Nat → Byte
  | 0 => 0x00
  | r + 1 => packRegister c p r

/-- PACK: the 107 bytes of the image (R140, R158). -/
def packBytes (c : Config) (p : Plan) : List Byte := (List.range imageLength).map (packByte c p)

end Sys2Proof.Machine
end

