-- ==== Sys2Proof/Machine/Operands.lean ====
section
/-! DEFINITION. The operand forms: the image buffer's bytes (R60), the host register map (R36), the payloads
of the calibration writes (R88), and the six bus requests (R86). -/

namespace Sys2Proof.Machine

/-- What an image index that is not listed reads as (log 2). -/
def Memory.unlisted : Byte := 0x00

/-- MemRead(a, 1): one byte of the image buffer (R15). -/
def Memory.read (a : Nat) : Memory → Byte
  | [] => Memory.unlisted
  | (b, w) :: m => if a = b then w else Memory.read a m

/-- A cell in front of the cells above it, left out where it holds what an unlisted index reads as. -/
def Memory.cons (a : Nat) (v : Byte) (m : Memory) : Memory :=
  if v = Memory.unlisted then m else (a, v) :: m

/-- MemWrite(a, 1, v): one byte of the image buffer, keeping the canonical form (R15). -/
def Memory.write (a : Nat) (v : Byte) : Memory → Memory
  | [] => Memory.cons a v []
  | (b, w) :: m =>
      if a < b then Memory.cons a v ((b, w) :: m)
      else if a = b then Memory.cons a v m
      else (b, w) :: Memory.write a v m

/-- Bytes written at `a`, `a + 1`, and so on. -/
def Memory.writeBytes (a : Nat) : List Byte → Memory → Memory
  | [], m => m
  | v :: vs, m => Memory.writeBytes (a + 1) vs (Memory.write a v m)

/-- The 107 bytes IMAGE[0], ..., IMAGE[106] (R62, R190). -/
def Memory.imageBytes (m : Memory) : List Byte := (List.range imageLength).map (fun i => Memory.read i m)

/-- Indexes rise strictly above `lo`, and no cell holds what an unlisted index reads as. -/
def Memory.risingFrom (lo : Nat) : Memory → Bool
  | [] => true
  | (a, v) :: m => lo ≤ a && v != Memory.unlisted && Memory.risingFrom (a + 1) m

/-- The canonical form of a memory, inside the 107 bytes that exist (R60). -/
def Memory.wf (m : Memory) : Bool := Memory.risingFrom 0 m && m.all (fun c => c.1 < imageLength)

/-- A register seen as a 32-bit host register: the unused high bits read as 0 (R36). -/
def Reg.host {w : Nat} (r : Reg w) : Reg 32 := ⟨r.val.setWidth 32, r.written⟩

/-- LO: bits [31:0] of a 64-bit register (R36, R65). -/
def Reg.lo (r : Reg 64) : Reg 32 := ⟨r.val.extractLsb' 0 32, r.written⟩

/-- HI: bits [63:32] of a 64-bit register (R36, R65). -/
def Reg.hi (r : Reg 64) : Reg 32 := ⟨r.val.extractLsb' 32 32, r.written⟩

/-- A register that a rule has written with `v`. -/
def Reg.of {w : Nat} (v : BitVec w) : Reg w := ⟨v, true⟩

/-- IMAGE_i as a host register (R36). -/
def State.imageRegister (s : State) (i : Nat) : Reg 32 :=
  ⟨(Memory.read i s.image).setWidth 32, s.imageWritten⟩

/-- The register a host reads at address `a`, if `a` is readable (R36). -/
def State.hostRegister (s : State) (a : BitVec 8) : Option (Reg 32) :=
  match a.toNat with
  | 0x00 => some s.refHz
  | 0x01 => some s.vcoHz
  | 0x02 => some s.out1Hz
  | 0x03 => some s.out2Hz
  | 0x04 => some s.out3Hz
  | 0x05 => some s.out4Hz
  | 0x07 => some ⟨s.statusWord, true⟩
  | 0x08 => some s.fb.lo
  | 0x09 => some s.fb.hi
  | 0x0A => some s.od1.lo
  | 0x0B => some s.od1.hi
  | 0x0C => some s.od2.lo
  | 0x0D => some s.od2.hi
  | 0x0E => some s.od3.lo
  | 0x0F => some s.od3.hi
  | 0x10 => some s.od4.lo
  | 0x11 => some s.od4.hi
  | 0x12 => some s.sd.host
  | 0x13 => some s.calV.host
  | 0x14 => some s.calS.host
  | 0x15 => some s.vcoBand.host
  | n => if 0x40 ≤ n ∧ n ≤ 0xAA then some (s.imageRegister (n - 0x40)) else none

/-- The state with the input register at address `a` written, if `a` is an input's address (R180). -/
def State.setInput (s : State) (a : BitVec 8) (d : Word) : Option State :=
  match a.toNat with
  | 0 => some { s with refHz := .of d }
  | 1 => some { s with vcoHz := .of d }
  | 2 => some { s with out1Hz := .of d }
  | 3 => some { s with out2Hz := .of d }
  | 4 => some { s with out3Hz := .of d }
  | 5 => some { s with out4Hz := .of d }
  | _ => none

/-- The six inputs as a CONFIGURE reads them (R21). -/
def State.request (s : State) : Request :=
  ⟨s.refHz.val, s.vcoHz.val, s.out1Hz.val, s.out2Hz.val, s.out3Hz.val, s.out4Hz.val⟩

/-- Whether all six input registers have been written (R38). -/
def State.inputsWritten (s : State) : Bool :=
  s.refHz.written && s.vcoHz.written && s.out1Hz.written && s.out2Hz.written && s.out3Hz.written
    && s.out4Hz.written

/-- The payload with bit 7 cleared: CAL_V & 0x7F (R88). -/
def clearPayload (v : Byte) : Byte := v &&& 0x7F

/-- The payload with bit 7 set: CAL_V | 0x80 (R88). -/
def setPayload (v : Byte) : Byte := v ||| 0x80

/-- rlen: 0 for WRITE and 1 for WRITE_READ (R66; log 15). -/
def TxReq.rlen (q : TxReq) : Nat :=
  match q.kind with
  | .write => 0
  | .writeRead => 1

/-- `BusWrite(DEV_ADDR, bytes)` (R67, R84). -/
def busWrite (bytes : List Byte) : TxReq := ⟨.write, chip.devAddr, bytes⟩

/-- `BusWriteRead(DEV_ADDR, [r], 1)` (R67, R85). -/
def busWriteRead (r : Byte) : TxReq := ⟨.writeRead, chip.devAddr, [r]⟩

/-- TX_CFG: the whole image in one WRITE (R86, R190). -/
def State.cfgRequest (s : State) : TxReq := busWrite s.image.imageBytes

/-- TX_RDCTRL: read register 0x1C (R86, R211). -/
def rdctrlRequest : TxReq := busWriteRead 0x1C

/-- TX_CLR1 and TX_CLR2: write register 0x1C with bit 7 clear (R86, R214, R222). -/
def State.clearRequest (s : State) : TxReq := busWrite [0x1C, clearPayload s.calV.val]

/-- TX_SET: write register 0x1C with bit 7 set (R86, R218). -/
def State.setRequest (s : State) : TxReq := busWrite [0x1C, setPayload s.calV.val]

/-- TX_RDRES: read register 0x99 (R86, R230). -/
def rdresRequest : TxReq := busWriteRead 0x99

end Sys2Proof.Machine
end

