-- ==== Sys2Proof/Machine/Ops.lean ====
section
/-! DEFINITION. The shared operations: issuing and completing a transaction, raising the two errors, accepting a
command, the turns of the transport, of time and of reset, and fetching the next instruction. -/

namespace Sys2Proof.Machine

/-- Record fault(UnwrittenRead), once and for all: a mark already there stays (R38, R250). -/
def State.recordUnwritten (s : State) (m : UnwrittenRead) : State :=
  { s with unwrittenRead := s.unwrittenRead.or (some m) }

/-- Issue a request: TXREQ, TXP <- 1, RESP <- EMPTY (R190, R211). -/
def State.issue (s : State) (q : TxReq) : State := { s with txreq := q, txp := true, resp := .empty }

/-- Consume the response: RESP <- EMPTY, TXP <- 0 (R191). -/
def State.consume (s : State) : State := { s with resp := .empty, txp := false }

/-- Enter a wait state with the settle timer started: TEXP <- 0 (R215). -/
def State.enterWait (s : State) (st : BitVec 4) : State := { s with ctl := st, texp := false }

/-- TAKING AN ERROR, the transport's: `raise TransportError(code)`. It empties RESP and sets TXP to 0, sets RESULT,
STEP and, for the calibration writes, CAL_INDET, and sets STATE to IDLE; it changes nothing else (R251, R254). -/
def State.raiseTransportError (s : State) (code : BitVec 3) (indet : Bool) : State :=
  { s.consume with status := s.status.transportError code indet, ctl := Ctl.idle }

/-- TAKING AN ERROR, the calculator's: `raise DomainError(k)` (R252, R254; log 17). -/
def State.raiseDomainError (s : State) (k : BitVec 3) : State :=
  { s.consume with status := s.status.domainError k, ctl := Ctl.idle }

/-- The return from an error is the next command's acceptance, which clears its report (R257): LASTCMD, and RESULT, STEP,
ZERO_INPUT and CAL_INDET cleared. -/
def State.acceptCommand (s : State) (calibrate : Bool) : State :=
  { s with status := s.status.accept calibrate }

/-- The results a CONFIGURE writes: FB, SD, OD1..OD4 (R22) and all of IMAGE (R60). -/
def State.storePlan (s : State) (p : Plan) : State :=
  { s with fb := .of p.fb, sd := .of p.sd, od1 := .of p.od1, od2 := .of p.od2, od3 := .of p.od3, od4 := .of p.od4
           image := Memory.writeBytes 0 (packBytes chip p) s.image, imageWritten := true }

/-- A plan made: PLAN_VALID <- 1, STATE <- CFG_WRITE, TXP <- 0 (R185). -/
def State.enterCfgWrite (s : State) : State :=
  { s with status := s.status.planned, ctl := Ctl.cfgWrite, txp := false }

/-- The configuration write ended with OK: RESULT <- OK, STATE <- IDLE (R191). -/
def State.finishConfigure (s : State) : State := { s with status := s.status.succeed, ctl := Ctl.idle }

/-- ReadControl ended with OK([v]): CAL_V <- v, STATE <- CAL_CLR1 (R212). -/
def State.holdControl (s : State) (v : Byte) : State := { s with calV := .of v, ctl := Ctl.calClr1 }

/-- ReadResult ended with OK([v]): CAL_S <- v, VCO_BAND <- v[7:3], CAL_VALID <- 1, RESULT <- OK, STATE <- IDLE (R232). -/
def State.finishCalibrate (s : State) (v : Byte) : State :=
  { s with calS := .of v, vcoBand := .of (v.extractLsb' 3 5), status := s.status.calibrated, ctl := Ctl.idle }

/-- A wait has ended: TEXP <- 0 and on to `target` (R217). -/
def State.leaveTo (s : State) (target : BitVec 4) : State := { s with texp := false, ctl := target }

/-- What a host read returns: D <- `d` (R182). -/
def State.returnData (s : State) (d : Word) : State := { s with hostData := d }

/-- The first check of a CONFIGURE: an unwritten input is recorded (R38, R185, R256; log 1). -/
def State.noteInputs (s : State) : State := if s.inputsWritten then s else s.recordUnwritten .configure

/-- The accepting step of a CONFIGURE in IDLE (R185). -/
def State.acceptConfigure (s : State) : State :=
  let s₁ := s.noteInputs.acceptCommand false
  match dchk s.request with
  | some k => s₁.raiseDomainError k
  | none => (s₁.storePlan s.request.plan).enterCfgWrite

/-- The accepting step of a CALIBRATE in IDLE (R186). -/
def State.acceptCalibrate (s : State) : State :=
  let s₁ := s.acceptCommand true
  { s₁ with status := s₁.status.uncalibrated, ctl := Ctl.calRdctrl, txp := false }

/-- A command word's checks and its effect, in the order of R181 and R256: reserved bits, busy, CODE. -/
def State.commandWrite (s : State) (d : Word) : Answer :=
  if d.extractLsb' 2 30 ≠ 0 then .refused (.access (.cmdReservedBits d))
  else if s.busy then .refused .busy
  else
    match (d.extractLsb' 0 2).toNat with
    | 0 => .next s
    | 1 => .next s.acceptConfigure
    | 2 => .next s.acceptCalibrate
    | _ => .refused .reservedCode

/-- The issue step of transaction state `st`: enabled when STATE = st and TXP = 0 (R83). -/
def issueStep (st : BitVec 4) (q : TxReq) (s : State) : Answer :=
  if s.ctl = st ∧ s.txp = false then .next (s.issue q) else .refused .notEnabled

/-- The transaction `q` presented on the bus: it is the block's only where the issue step of `st` sends those
bytes (R68, R86). -/
def issueTransaction (st : BitVec 4) (sent q : TxReq) (s : State) : Answer :=
  if q = sent then issueStep st q s else .refused .notEnabled

/-- The complete step of a WRITE in state `st`: enabled when STATE = st, TXP = 1 and RESP != EMPTY (R83). -/
def completeWrite (st : BitVec 4) (onOk onFail : State → State) (s : State) : Answer :=
  if s.ctl = st ∧ s.txp = true then
    match s.resp with
    | .empty => .refused .notEnabled
    | .ok [] => .next (onOk s.consume)
    | .ok (_ :: _) => .fault .responseLength
    | .fail => .next (onFail s)
  else .refused .notEnabled

/-- The complete step of a WRITE_READ in state `st`, whose OK answer carries one byte (R231). -/
def completeRead (st : BitVec 4) (onOk : Byte → State → State) (onFail : State → State) (s : State) : Answer :=
  if s.ctl = st ∧ s.txp = true then
    match s.resp with
    | .empty => .refused .notEnabled
    | .ok [v] => .next (onOk v s.consume)
    | .ok _ => .fault .responseLength
    | .fail => .next (onFail s)
  else .refused .notEnabled

/-- The step of wait state `st`, enabled when TEXP = 1: TEXP <- 0 and on to `target` (R217). -/
def leaveWait (st target : BitVec 4) (s : State) : Answer :=
  if s.ctl = st ∧ s.texp = true then .next (s.leaveTo target) else .refused .notEnabled

/-- The answer a draw gives to a request: FAIL, or OK with exactly rlen bytes (R66, R193). -/
def Draw.answer (d : Draw) (q : TxReq) : Resp :=
  match d with
  | .fail => .fail
  | .ok b => .ok (if q.rlen = 1 then [b] else [])

/-- The transport's turn: enabled when TXP = 1 and RESP = EMPTY, it sets RESP and nothing else (R193). A turn in which
it is not enabled moves nothing (log 4). -/
def State.transportTurn (s : State) (d : Draw) : State :=
  if s.txp = true ∧ s.resp = .empty then { s with resp := d.answer s.txreq } else s

/-- The turn of time: enabled in a wait state with TEXP = 0, it sets TEXP (R262). A turn in which it is not enabled
moves nothing (log 4). -/
def State.timeTurn (s : State) : State :=
  if waitState s.ctl = true ∧ s.texp = false then { s with texp := true } else s

/-- A reset at any moment: every piece of the block's state takes its reset value (R280, R281). What is not the block's
stays: the turns to come, the host's data, and the recorded fault, which is never cleared (R250). -/
def State.resetTurn (s : State) : State :=
  { State.reset with agenda := s.agenda, hostData := s.hostData, unwrittenRead := s.unwrittenRead }

/-- The control step as the block's own registers encode it (R80, R83). -/
def State.controlStep (s : State) : Encoded := encodeStep s.ctl s.txp (s.resp != .empty) s.texp

/-- What the next turn is: an instruction to decode and run, with the state it runs in, or another agent's move,
with the state after it. -/
inductive Fetched where
  | instr (e : Encoded) (s : State)
  | moved (s : State)
  deriving DecidableEq, Repr

/-- The next turn (R183). With no turn left, the block moves (log 4). While STATE holds a reserved code, no turn but
reset moves anything: the block's step is STEP_RSVD (R31, ERR-5). -/
def State.fetch (s : State) : Fetched :=
  match s.agenda with
  | [] => .instr s.controlStep s
  | t :: rest =>
      let s' := { s with agenda := rest }
      match t with
      | .reset => .moved s'.resetTurn
      | .block => .instr s.controlStep s'
      | .present e => if 10 ≤ s.ctl.toNat then .instr s.controlStep s' else .instr e s'
      | .transport d => if 10 ≤ s.ctl.toNat then .instr s.controlStep s' else .moved (s'.transportTurn d)
      | .time => if 10 ≤ s.ctl.toNat then .instr s.controlStep s' else .moved s'.timeTurn

/-- What a form without an instruction does: where the block has no step it holds (R83); every other form is
refused (R37, R90). -/
def rejected (why : DecodeError) (s : State) : Answer :=
  match why with
  | .blockIdle => .next s
  | .blockHolds => .next s
  | _ => .refused (.access why)

/-- The state in which the next turn runs the encoded instruction `e` (log 6). A host form is the next turn; a
control step is selected by STATE, TXP and, in a wait state, TEXP; a transaction is presented in the state that
issues it, with its operand bits in CAL_V or IMAGE, from which the block sends them (R86). -/
def State.place (s : State) (e : Encoded) : State :=
  match e.form with
  | .hostWrite | .hostRead | .cmdWord => { s with agenda := .present e :: s.agenda }
  | .controlStep =>
      let b := e.bytes.headD 0
      let st := b.extractLsb' 0 4
      { s with ctl := st, txp := b.getLsbD 4, texp := if waitState st then b.getLsbD 6 else s.texp,
               agenda := .block :: s.agenda }
  | .busWrite =>
      let s₁ := { s with ctl := e.issuedIn, txp := false, agenda := .present e :: s.agenda }
      match e.bytes with
      | [_, b] => { s₁ with calV := { s.calV with val := s.calV.val.extractLsb' 7 1 ++ b.extractLsb' 0 7 } }
      | bytes => { s₁ with image := Memory.writeBytes 0 bytes s.image }
  | .busWriteRead => { s with ctl := e.issuedIn, txp := false, agenda := .present e :: s.agenda }

end Sys2Proof.Machine
end

