-- ==== Sys2Proof/Machine/Commands.lean ====
section
/-! DEFINITION. The four command words (R184 to R188). -/

namespace Sys2Proof.Machine

/-- CMD_NOP in IDLE changes no state (R184); otherwise it is refused (R188). -/
def execCmdNop (s : State) : Answer := if s.busy then .refused .busy else .next s

/-- CMD_CONFIGURE in IDLE: DCHK, FBDIV, SDSEL, ODIV and PACK in one step (R185); otherwise refused (R188). -/
def execCmdConfigure (s : State) : Answer := if s.busy then .refused .busy else .next s.acceptConfigure

/-- CMD_CALIBRATE in IDLE (R186), whatever the outcome of the last CONFIGURE (R189); otherwise refused (R188). -/
def execCmdCalibrate (s : State) : Answer := if s.busy then .refused .busy else .next s.acceptCalibrate

/-- CMD_RSVD is refused (R187), the busy check first (R256). -/
def execCmdRsvd (s : State) : Answer := if s.busy then .refused .busy else .refused .reservedCode

end Sys2Proof.Machine
end

