-- ==== Sys2Proof/Machine/ConfigWrite.lean ====
section
/-! DEFINITION. The configuration write: the steps of CFG_WRITE and its transaction (R190 to R192). -/

namespace Sys2Proof.Machine

/-- STEP_CFG_ISSUE: the whole image in one transaction (R190). -/
def execStepCfgIssue (s : State) : Answer := issueStep Ctl.cfgWrite s.cfgRequest s

/-- STEP_CFG_DONE: with OK, RESULT <- OK and STATE <- IDLE (R191); with FAIL, TransportError(0) (R192). -/
def execStepCfgDone (s : State) : Answer :=
  completeWrite Ctl.cfgWrite (fun t => t.finishConfigure) (fun t => t.raiseTransportError 0 false) s

/-- TX_CFG on the bus: the register select 0x00 and 106 payload bytes, which the block sends from IMAGE (R86, R190). -/
def execTxCfg (payload : List Byte) (s : State) : Answer :=
  issueTransaction Ctl.cfgWrite s.cfgRequest (busWrite (0x00 :: payload)) s

end Sys2Proof.Machine
end

