-- ==== Sys2Proof/Machine/HostOps.lean ====
section
/-! DEFINITION. The host operations HWR_IN, HWR_CMD and HRD (R180 to R182). -/

namespace Sys2Proof.Machine

/-- HWR_IN: `x[name] <- D`, also while BUSY = 1 (R180, R75). -/
def execHwrIn (a : BitVec 8) (d : Word) (s : State) : Answer :=
  match s.setInput a d with
  | some t => .next t
  | none => .refused (.access (.notAnInput a))

/-- HWR_CMD: the checks of R181 in their order, then the command. -/
def execHwrCmd (d : Word) (s : State) : Answer := s.commandWrite d

/-- HRD: D <- the register at A; a read has no side effect on the block (R182). A read of an unwritten register is
recorded as fault(UnwrittenRead(A)) (R38, R250) and answers the register's reset value (log 1). -/
def execHrd (a : BitVec 8) (s : State) : Answer :=
  match s.hostRegister a with
  | some r =>
      .next ((if r.written then s else s.recordUnwritten (.hostRead a)).returnData r.val)
  | none => .refused (.access (readRefusal a))

end Sys2Proof.Machine
end

