-- ==== Sys2Proof/Machine/Sequencer.lean ====
section
/-! DEFINITION. The calibration sequencer: the steps of the CAL states and their transactions (R210 to R237),
and the stuck step of the reserved codes (R31). -/

namespace Sys2Proof.Machine

/-- STEP_RDCTRL_ISSUE (R211). -/
def execStepRdctrlIssue (s : State) : Answer := issueStep Ctl.calRdctrl rdctrlRequest s

/-- STEP_RDCTRL_DONE: CAL_V <- v and on to CAL_CLR1 (R212), or TransportError(1) (R213). -/
def execStepRdctrlDone (s : State) : Answer :=
  completeRead Ctl.calRdctrl (fun v t => t.holdControl v) (fun t => t.raiseTransportError 1 false) s

/-- STEP_CLR1_ISSUE (R214). -/
def execStepClr1Issue (s : State) : Answer := issueStep Ctl.calClr1 s.clearRequest s

/-- STEP_CLR1_DONE: on to CAL_WAIT1 (R215), or CAL_INDET and TransportError(2) (R216). -/
def execStepClr1Done (s : State) : Answer :=
  completeWrite Ctl.calClr1 (fun t => t.enterWait Ctl.calWait1) (fun t => t.raiseTransportError 2 true) s

/-- STEP_WAIT1 (R217). -/
def execStepWait1 (s : State) : Answer := leaveWait Ctl.calWait1 Ctl.calSet s

/-- STEP_SET_ISSUE (R218). -/
def execStepSetIssue (s : State) : Answer := issueStep Ctl.calSet s.setRequest s

/-- STEP_SET_DONE: on to CAL_WAIT2 (R219), or CAL_INDET and TransportError(3) (R220). -/
def execStepSetDone (s : State) : Answer :=
  completeWrite Ctl.calSet (fun t => t.enterWait Ctl.calWait2) (fun t => t.raiseTransportError 3 true) s

/-- STEP_WAIT2 (R221). -/
def execStepWait2 (s : State) : Answer := leaveWait Ctl.calWait2 Ctl.calClr2 s

/-- STEP_CLR2_ISSUE (R222). -/
def execStepClr2Issue (s : State) : Answer := issueStep Ctl.calClr2 s.clearRequest s

/-- STEP_CLR2_DONE: on to CAL_WAIT3 (R223), or CAL_INDET and TransportError(4) (R224). -/
def execStepClr2Done (s : State) : Answer :=
  completeWrite Ctl.calClr2 (fun t => t.enterWait Ctl.calWait3) (fun t => t.raiseTransportError 4 true) s

/-- STEP_WAIT3 (R225). -/
def execStepWait3 (s : State) : Answer := leaveWait Ctl.calWait3 Ctl.calRdres s

/-- STEP_RDRES_ISSUE (R230). -/
def execStepRdresIssue (s : State) : Answer := issueStep Ctl.calRdres rdresRequest s

/-- STEP_RDRES_DONE: CAL_S <- s, VCO_BAND <- s[7:3], CAL_VALID <- 1, RESULT <- OK and STATE <- IDLE (R232), or
TransportError(5) (R233). -/
def execStepRdresDone (s : State) : Answer :=
  completeRead Ctl.calRdres (fun v t => t.finishCalibrate v) (fun t => t.raiseTransportError 5 false) s

/-- STEP_RSVD: no step, the model is stuck and records a fault (R31). R31 speaks of a code that STATE holds; that the row
presented while STATE does not hold its code faults too, with that code, is the model's choice (DESIGN CHOICE, safe: log 19). -/
def execStepRsvd (code : BitVec 4) (_ : State) : Answer := .fault (.reservedState code)

/-- TX_RDCTRL on the bus (R86, R211). -/
def execTxRdctrl (s : State) : Answer := issueTransaction Ctl.calRdctrl rdctrlRequest (busWriteRead 0x1C) s

/-- TX_CLR1 on the bus: the payload is 0, then the seven bits `v`, which the block sends from CAL_V[6:0] (R86, R214). -/
def execTxClr1 (v : BitVec 7) (s : State) : Answer :=
  issueTransaction Ctl.calClr1 s.clearRequest (busWrite [0x1C, 0#1 ++ v]) s

/-- TX_SET on the bus: the payload is 1, then CAL_V[6:0] (R86, R218). -/
def execTxSet (v : BitVec 7) (s : State) : Answer :=
  issueTransaction Ctl.calSet s.setRequest (busWrite [0x1C, 1#1 ++ v]) s

/-- TX_CLR2 on the bus: the same bytes as TX_CLR1, issued in CAL_CLR2 (R86, R222). -/
def execTxClr2 (v : BitVec 7) (s : State) : Answer :=
  issueTransaction Ctl.calClr2 s.clearRequest (busWrite [0x1C, 0#1 ++ v]) s

/-- TX_RDRES on the bus (R86, R230). -/
def execTxRdres (s : State) : Answer := issueTransaction Ctl.calRdres rdresRequest (busWriteRead 0x99) s

end Sys2Proof.Machine
end

