-- ==== Sys2Proof/Machine/Dispatch.lean ====
section
/-! DEFINITION. The meaning of every instruction: one arm per constructor of Instr. -/

namespace Sys2Proof.Machine

def exec (i : Instr) (s : State) : Host.Outcome State Fault Refusal :=
  match i with
  | .hwrIn a d => Sys2Proof.Machine.execHwrIn a d s
  | .hwrCmd d => Sys2Proof.Machine.execHwrCmd d s
  | .hrd a => Sys2Proof.Machine.execHrd a s
  | .cmdNop => Sys2Proof.Machine.execCmdNop s
  | .cmdConfigure => Sys2Proof.Machine.execCmdConfigure s
  | .cmdCalibrate => Sys2Proof.Machine.execCmdCalibrate s
  | .cmdRsvd => Sys2Proof.Machine.execCmdRsvd s
  | .stepCfgIssue => Sys2Proof.Machine.execStepCfgIssue s
  | .stepCfgDone => Sys2Proof.Machine.execStepCfgDone s
  | .stepRdctrlIssue => Sys2Proof.Machine.execStepRdctrlIssue s
  | .stepRdctrlDone => Sys2Proof.Machine.execStepRdctrlDone s
  | .stepClr1Issue => Sys2Proof.Machine.execStepClr1Issue s
  | .stepClr1Done => Sys2Proof.Machine.execStepClr1Done s
  | .stepWait1 => Sys2Proof.Machine.execStepWait1 s
  | .stepSetIssue => Sys2Proof.Machine.execStepSetIssue s
  | .stepSetDone => Sys2Proof.Machine.execStepSetDone s
  | .stepWait2 => Sys2Proof.Machine.execStepWait2 s
  | .stepClr2Issue => Sys2Proof.Machine.execStepClr2Issue s
  | .stepClr2Done => Sys2Proof.Machine.execStepClr2Done s
  | .stepWait3 => Sys2Proof.Machine.execStepWait3 s
  | .stepRdresIssue => Sys2Proof.Machine.execStepRdresIssue s
  | .stepRdresDone => Sys2Proof.Machine.execStepRdresDone s
  | .stepRsvd code => Sys2Proof.Machine.execStepRsvd code s
  | .txCfg payload => Sys2Proof.Machine.execTxCfg payload s
  | .txRdctrl => Sys2Proof.Machine.execTxRdctrl s
  | .txClr1 v => Sys2Proof.Machine.execTxClr1 v s
  | .txSet v => Sys2Proof.Machine.execTxSet v s
  | .txClr2 v => Sys2Proof.Machine.execTxClr2 v s
  | .txRdres => Sys2Proof.Machine.execTxRdres s

end Sys2Proof.Machine
end

