-- ==== Sys2Proof/Machine/Step.lean ====
section
/-! DEFINITION. One step of the machine: the next turn's instruction, decoded and run, or another agent's
move (R17, R183). -/

namespace Sys2Proof.Machine

/-- One step (R183): every agent's move is atomic. -/
def step (s : State) : Host.Outcome State Fault Refusal :=
  match s.fetch with
  | .moved t => .next t
  | .instr e t =>
      match decode e with
      | .ok i => exec i t
      | .error why => rejected why t

/-- The state whose very next step runs the instruction the decoder reads from a word of spec/opcode_table.json;
a word that it does not read is presented as a host write of too few bytes, which is refused (log 6). -/
def State.withFetchWord (s : State) (nbits w : Nat) : State :=
  match tableEncoded nbits w with
  | some e => s.place e
  | none => s.place ⟨.hostWrite, 0, [BitVec.ofNat 8 w]⟩

end Sys2Proof.Machine
end

