-- ==== Sys2Proof/Safety.lean ====
section
/-! DEFINITION. What claims are stated in: the invariant of the machine, the recorded fault of R38, and the
transactions that a run issues. -/

namespace Sys2Proof.Machine

/-- No step so far has read an unwritten register (R38, R250): a claim about a run may ask for it where a value that
the model names (log 1) must not matter. -/
def State.faultFree (s : State) : Prop := s.unwrittenRead = none

/-- Every register unwritten, STATE = IDLE, STATUS = 0, TXP = 0, RESP = EMPTY, TEXP = 0 (R39, R280). -/
def State.AtResetValues (s : State) : Prop :=
  s.refHz.written = false ∧ s.vcoHz.written = false ∧ s.out1Hz.written = false ∧ s.out2Hz.written = false ∧
  s.out3Hz.written = false ∧ s.out4Hz.written = false ∧ s.fb.written = false ∧ s.od1.written = false ∧
  s.od2.written = false ∧ s.od3.written = false ∧ s.od4.written = false ∧ s.sd.written = false ∧
  s.calV.written = false ∧ s.calS.written = false ∧ s.vcoBand.written = false ∧ s.imageWritten = false ∧
  s.ctl = 0 ∧ s.status = ⟨0, false, 0, 0, false, false, false⟩ ∧ s.busy = false ∧ s.statusWord = 0 ∧
  s.txp = false ∧ s.resp = .empty ∧ s.texp = false

/-- A host read of `a` completes: the host gets `v`, and if the register is unwritten that is recorded (R38, R182;
log 1). Nothing else changes. -/
def State.readsAs (s : State) (a : BitVec 8) (v : Word) (written : Bool) : Prop :=
  exec (.hrd a) s = .next { s with
    hostData := v
    unwrittenRead := if written then s.unwrittenRead else s.unwrittenRead.or (some (.hostRead a)) }

/-- The state after issuing the request of the given kind and bytes to device 0x6A; nothing else changes. -/
def State.afterIssue (s : State) (kind : TxKind) (bytes : List Byte) : State :=
  { s with txreq := ⟨kind, 0x6A, bytes⟩, txp := true, resp := .empty }

/-- The state after TransportError(code): RESP empty, TXP 0, RESULT 2, STEP the code, CAL_INDET as given, STATE IDLE;
nothing else changes. -/
def State.afterTransportError (s : State) (code : BitVec 3) (indet : Bool) : State :=
  { s with resp := .empty, txp := false, ctl := 0
           status := { s.status with result := 2, step := code, calIndet := indet } }

/-- The transaction states with their issue and complete steps (R30). -/
def transactionSteps : List (BitVec 4 × Instr × Instr) :=
  [(1, .stepCfgIssue, .stepCfgDone), (2, .stepRdctrlIssue, .stepRdctrlDone), (3, .stepClr1Issue, .stepClr1Done),
   (5, .stepSetIssue, .stepSetDone), (7, .stepClr2Issue, .stepClr2Done), (9, .stepRdresIssue, .stepRdresDone)]

/-- The wait states with their step and the state after it (R30). -/
def waitSteps : List (BitVec 4 × Instr × BitVec 4) :=
  [(4, .stepWait1, 5), (6, .stepWait2, 7), (8, .stepWait3, 9)]

/-- The transaction states with the STEP code of a failure there, and whether it makes CAL_INDET 1 (R251, R236). -/
def errorReports : List (BitVec 4 × BitVec 3 × Bool) :=
  [(1, 0, false), (2, 1, false), (3, 2, true), (5, 3, true), (7, 4, true), (9, 5, false)]

/-- The changes of STATE that steps other than a reset make (R30, R210). -/
def controlEdges : List (BitVec 4 × BitVec 4) :=
  [(0, 1), (0, 2), (1, 0), (2, 3), (2, 0), (3, 4), (3, 0), (4, 5), (5, 6), (5, 0), (6, 7), (7, 8), (7, 0), (8, 9),
   (9, 0)]

/-- The request that transaction state `ctl` issues in `s` (R86). -/
def State.requestOfState (s : State) : Option TxReq :=
  match s.ctl.toNat with
  | 1 => some s.cfgRequest
  | 2 => some rdctrlRequest
  | 3 => some s.clearRequest
  | 5 => some s.setRequest
  | 7 => some s.clearRequest
  | 9 => some rdresRequest
  | _ => none

/-- FB, SD and OD1..OD4 as a plan (R22). -/
def State.storedPlan (s : State) : Plan :=
  ⟨s.fb.val, s.sd.val, s.od1.val, s.od2.val, s.od3.val, s.od4.val⟩

/-- The control half of the invariant: STATE and the transaction and timer state (R31, R33, R66, R68). -/
structure State.ControlInv (s : State) : Prop where
  /-- STATE holds no reserved code (R31). -/
  ctl_legal : s.ctl.toNat ≤ 9
  /-- A transaction is outstanding only in a transaction state, and it is that state's (R68, R72, R86). -/
  txreq_of_state : s.txp = true → s.requestOfState = some s.txreq
  /-- RESP is filled only while a transaction is outstanding (R33, R193). -/
  resp_empty : s.txp = false → s.resp = .empty
  /-- An OK response has exactly rlen bytes (R66, R193). -/
  resp_length : ∀ rbytes, s.resp = .ok rbytes → rbytes.length = s.txreq.rlen
  /-- TEXP is set only in a wait state (R33, R262). -/
  texp_wait : s.texp = true → waitState s.ctl = true
  /-- In calibration past step 1, CAL_V is written (R212). -/
  calV_written : 3 ≤ s.ctl.toNat → s.calV.written = true

/-- The STATUS half: the reserved codes never occur and the fields agree (R26 to R29, R236, R252, R253). -/
structure State.StatusInv (s : State) : Prop where
  result_legal : s.status.result.toNat ≤ 3
  step_legal : s.status.step.toNat ≤ 5
  zeroInput_legal : s.status.zeroInput.toNat ≤ 5
  /-- A running command has RESULT = NONE (R26). -/
  busy_none : s.busy = true → s.status.result = ResultCode.none
  /-- LASTCMD names the running command (R24). -/
  lastCmd_of_state : s.busy = true → (s.status.lastCmd = true ↔ s.ctl ≠ Ctl.cfgWrite)
  step_of_result : s.status.result ≠ ResultCode.transportError → s.status.step = 0
  /-- STEP 0 is the configuration write, 1 to 5 the calibration steps (R27). -/
  step_of_lastCmd : s.status.result = ResultCode.transportError → (s.status.lastCmd = true ↔ s.status.step ≠ 0)
  zeroInput_of_result : s.status.result ≠ ResultCode.domainError → s.status.zeroInput = 0
  /-- Only a CONFIGURE raises DomainError, and it leaves PLAN_VALID 0 (R252, R253). -/
  domainError_configure : s.status.result = ResultCode.domainError →
    s.status.lastCmd = false ∧ s.status.planValid = false
  /-- CAL_INDET is 1 exactly when the last command is a CALIBRATE that failed at step 2, 3 or 4 (R236). -/
  calIndet_iff : s.status.calIndet = true ↔
    s.status.result = ResultCode.transportError ∧ 2 ≤ s.status.step.toNat ∧ s.status.step.toNat ≤ 4
  /-- A running CALIBRATE has CAL_VALID = 0 (R29). -/
  calValid_running : s.busy = true → s.status.lastCmd = true → s.status.calValid = false

/-- The data half: the image, the results and the calibration registers (R22, R23, R24, R60, R117, R158). -/
structure State.DataInv (s : State) : Prop where
  image_wf : Memory.wf s.image = true
  /-- IMAGE[0] is 0x00 (R61). -/
  image_start : Memory.read 0 s.image = 0x00
  /-- A written image is the image of the stored results (R24, R158). -/
  image_of_plan : s.imageWritten = true → s.image.imageBytes = packBytes chip s.storedPlan
  /-- The results and the image are written together (R185). -/
  results_written : s.fb.written = s.imageWritten ∧ s.sd.written = s.imageWritten ∧ s.od1.written = s.imageWritten ∧
    s.od2.written = s.imageWritten ∧ s.od3.written = s.imageWritten ∧ s.od4.written = s.imageWritten
  /-- PLAN_VALID says that they are written (R24). -/
  planValid_written : s.status.planValid = true → s.imageWritten = true
  /-- SD is SDSEL of FB, so it is never Order1 or Order2 (R115, R117). -/
  sd_of_fb : s.sd.val = sdsel s.fb.val
  /-- VCO_BAND is CAL_S[7:3] (R23). -/
  band_of_calS : s.vcoBand.val = s.calS.val.extractLsb' 3 5
  calS_written : s.calS.written = s.vcoBand.written
  /-- CAL_VALID says that they are written (R24). -/
  calValid_written : s.status.calValid = true → s.calS.written = true
  /-- In CFG_WRITE there is a plan (R185). -/
  cfgWrite_planned : s.ctl = Ctl.cfgWrite → s.status.planValid = true

/-- The invariant of the machine. -/
structure State.Inv (s : State) : Prop where
  control : s.ControlInv
  status : s.StatusInv
  data : s.DataInv

/-- The transaction that a step from `s` to `t` issues, if it issues one (R72). -/
def issuedBy (s t : State) : List TxReq := if s.txp = false ∧ t.txp = true then [t.txreq] else []

/-- `n` steps through busy states only: the transactions they issue, in order, and the state they end in. -/
def busyRun : Nat → State → Option (List TxReq × State)
  | 0, s => if s.busy then some ([], s) else none
  | n + 1, s =>
      if s.busy then
        match step s with
        | .next t => (busyRun n t).map (fun r => (issuedBy s t ++ r.1, r.2))
        | .fault _ => none
        | .refused _ => none
      else none

/-- The five transactions of a calibration that reads `v` in step 1 (R235). -/
def calibrationSequence (v : Byte) : List TxReq :=
  [busWriteRead 0x1C, busWrite [0x1C, clearPayload v], busWrite [0x1C, setPayload v],
   busWrite [0x1C, clearPayload v], busWriteRead 0x99]

/-- Two states that differ at most in the input registers (R21). -/
def State.sameButInputs (s t : State) : Prop :=
  t = { s with refHz := t.refHz, vcoHz := t.vcoHz, out1Hz := t.out1Hz, out2Hz := t.out2Hz
               out3Hz := t.out3Hz, out4Hz := t.out4Hz }

/-- The next turn is the block's, the transport's or time's: no host operation and no reset. -/
def State.noHostTurn (s : State) : Bool :=
  match s.agenda with
  | [] => true
  | .block :: _ => true
  | .transport _ :: _ => true
  | .time :: _ => true
  | .present _ :: _ => false
  | .reset :: _ => false

end Sys2Proof.Machine
end

