-- ==== Sys2Proof/Certificates/Slice0/Obligations.lean ====
section
/-! DEFINITION. The statements for the provers. -/

open Sys2Proof Sys2Proof.Machine

/-! ### Reset and the invariant -/

/-- 70 section 1 and 10 section 6 (R280): the values of R39, and after reset the block does nothing until the host writes
CMD: in IDLE no turn of the block, of the transport or of time moves anything, and no instruction but a CMD write leaves IDLE
or issues a transaction. That an empty agenda is the block's turn, and that a turn whose agent has no step is only consumed,
is the model's choice (log 4). (That registers marked unwritten hold 0 is log 1 and is not stated here.) -/
def Obligations.ResetPutsEveryRegisterAtItsResetValue : Prop :=
  State.reset.AtResetValues ∧ step State.reset = .next State.reset ∧
  ∀ s : State, s.ctl = 0 → s.txp = false →
    (∀ (turn : Turn) (rest : List Turn), s.agenda = turn :: rest →
      (turn = .block ∨ turn = .time ∨ ∃ d, turn = .transport d) → step s = .next { s with agenda := rest }) ∧
    ∀ (i : Instr) (t : State), exec i s = .next t →
      (∀ d, i ≠ .hwrCmd d) → i ≠ .cmdNop → i ≠ .cmdConfigure → i ≠ .cmdCalibrate →
      t.ctl = 0 ∧ t.txp = false ∧ t.txreq = s.txreq

/-- 70 section 1 (R281): a reset in any state, a reserved code among them, abandons what runs. What a reset keeps
(the turns to come, the host's data, the recorded fault) is the model's choice (log 4). -/
def Obligations.ResetTurnAbandonsWhateverRuns : Prop :=
  ∀ (s : State) (rest : List Turn), s.agenda = .reset :: rest →
    ∃ t, step s = .next t ∧ t.AtResetValues ∧ t.agenda = rest ∧ t.hostData = s.hostData ∧
      t.unwrittenRead = s.unwrittenRead

/-- The invariant holds at reset. -/
def Obligations.ResetMeetsTheInvariant : Prop := State.reset.Inv

/-- Every step keeps the invariant: no reserved code of STATE, RESULT, STEP, ZERO_INPUT or SD, an outstanding transaction
is its state's, the STATUS fields agree, the image is canonical and is the stored plan's. -/
def Obligations.EveryStepKeepsTheInvariant : Prop :=
  ∀ s t : State, s.Inv → step s = .next t → t.Inv

/-! ### Encoding and the step -/

/-- Decoding the encoding of a well-formed instruction gives it back, for every instruction and every operand. -/
def Obligations.DecodeOfEncodeGivesTheInstruction : Prop :=
  ∀ i : Instr, i.wellFormed = true → decode (encode i) = .ok i

/-- What the decoder reads is well-formed, and, but for a control step (whose TXP, RESP and TEXP bits are partly
free), its encoding has the form and the bytes read; for a transaction it also has the state that issues it. -/
def Obligations.DecodedFormsEncodeBack : Prop :=
  ∀ (e : Encoded) (i : Instr), decode e = .ok i →
    i.wellFormed = true ∧ (e.form ≠ .controlStep → (encode i).form = e.form ∧ (encode i).bytes = e.bytes) ∧
    (e.form = .busWrite ∨ e.form = .busWriteRead → (encode i).issuedIn = e.issuedIn)

/-- Words written out from R82, R83, R86 and R92 decode to their instructions. How the host forms lie in bytes is
the model's own (log 5). -/
def Obligations.WordsOfTheTablesDecode : Prop :=
  decode ⟨.hostWrite, 0, [0x01, 0x00, 0xBB, 0xEE, 0xA0]⟩ = .ok (.hwrIn 0x01 2700000000) ∧
  decode ⟨.hostWrite, 0, [0x06, 0x01, 0x00, 0x00, 0x00]⟩ = .ok (.hwrCmd 1) ∧
  decode ⟨.hostRead, 0, [0x07]⟩ = .ok (.hrd 0x07) ∧
  decodeTableWord 32 0b10 = some .cmdCalibrate ∧
  decode ⟨.controlStep, 0, [0b00000101]⟩ = .ok .stepSetIssue ∧
  decode ⟨.controlStep, 0, [0b00110101]⟩ = .ok .stepSetDone ∧
  decode ⟨.controlStep, 0, [0b01000110]⟩ = .ok .stepWait2 ∧
  decode ⟨.busWriteRead, 2, [0b00011100]⟩ = .ok .txRdctrl ∧
  decode ⟨.busWrite, 5, [0b00011100, 0b10111100]⟩ = .ok (.txSet 0b0111100) ∧
  decode ⟨.busWriteRead, 9, [0b10011001]⟩ = .ok .txRdres

/-- A step whose turn presents an encoded instruction runs it, with the turn taken off the agenda (log 4); while STATE holds
no reserved code. -/
def Obligations.StepRunsThePresentedInstruction : Prop :=
  ∀ (s : State) (e : Encoded) (rest : List Turn) (i : Instr), s.agenda = .present e :: rest → s.ctl.toNat ≤ 9 → decode e = .ok i →
    step s = exec i { s with agenda := rest }

/-- 30 section 1 and 10 section 2 (R83, R30): the block's turn. In a transaction state TXP = 0 selects "issue", TXP = 1
with RESP != EMPTY selects "complete"; in a wait state TEXP = 1 selects "leave"; otherwise the block holds. In IDLE it has no
step. That an empty agenda is the block's turn too, and that its turn where it has no step, in IDLE or holding, is only
consumed, is the model's choice (log 4). -/
def Obligations.BlockStepIsSelectedByItsRegisters : Prop :=
  ∀ (s : State) (rest : List Turn), s.agenda = .block :: rest ∨ (s.agenda = [] ∧ rest = []) →
    (s.ctl = 0 → step s = .next { s with agenda := rest }) ∧
    (∀ st issue done, (st, issue, done) ∈ transactionSteps → s.ctl = st →
      (s.txp = false → step s = exec issue { s with agenda := rest }) ∧
      (s.txp = true → s.resp ≠ .empty → step s = exec done { s with agenda := rest }) ∧
      (s.txp = true → s.resp = .empty → step s = .next { s with agenda := rest })) ∧
    (∀ st leave after, (st, leave, after) ∈ waitSteps → s.ctl = st →
      (s.texp = true → step s = exec leave { s with agenda := rest }) ∧
      (s.texp = false → step s = .next { s with agenda := rest }))

/-- A word of the opcode table that the decoder reads is what the very next step runs, from any state (log 6). -/
def Obligations.TableWordsRunAsTheNextStep : Prop :=
  ∀ (s : State) (nbits w : Nat) (i : Instr), s.ctl.toNat ≤ 9 → decodeTableWord nbits w = some i →
    step (s.withFetchWord nbits w) = exec i { s.withFetchWord nbits w with agenda := s.agenda }

/-! ### Host operations -/

/-- R180: a host write of an input register sets that register and nothing else, busy or not, zero or not. -/
def Obligations.InputWriteSetsOneRegister : Prop :=
  ∀ (s : State) (d : Word),
    exec (.hwrIn 0x00 d) s = .next { s with refHz := ⟨d, true⟩ } ∧
    exec (.hwrIn 0x01 d) s = .next { s with vcoHz := ⟨d, true⟩ } ∧
    exec (.hwrIn 0x02 d) s = .next { s with out1Hz := ⟨d, true⟩ } ∧
    exec (.hwrIn 0x03 d) s = .next { s with out2Hz := ⟨d, true⟩ } ∧
    exec (.hwrIn 0x04 d) s = .next { s with out3Hz := ⟨d, true⟩ } ∧
    exec (.hwrIn 0x05 d) s = .next { s with out4Hz := ⟨d, true⟩ }

/-- 42 section 1 and 10 section 6 (R182, R36): what a host reads at every readable address, busy or not. That a read of an
unwritten register completes with the register's reset value, and is recorded, is the model's choice (log 1). -/
def Obligations.HostReadReturnsTheRegister : Prop :=
  ∀ s : State,
    s.readsAs 0x00 s.refHz.val s.refHz.written ∧ s.readsAs 0x01 s.vcoHz.val s.vcoHz.written ∧
    s.readsAs 0x02 s.out1Hz.val s.out1Hz.written ∧ s.readsAs 0x03 s.out2Hz.val s.out2Hz.written ∧
    s.readsAs 0x04 s.out3Hz.val s.out3Hz.written ∧ s.readsAs 0x05 s.out4Hz.val s.out4Hz.written ∧
    s.readsAs 0x07 s.statusWord true ∧
    s.readsAs 0x08 (s.fb.val.extractLsb' 0 32) s.fb.written ∧
    s.readsAs 0x09 (s.fb.val.extractLsb' 32 32) s.fb.written ∧
    s.readsAs 0x0A (s.od1.val.extractLsb' 0 32) s.od1.written ∧
    s.readsAs 0x0B (s.od1.val.extractLsb' 32 32) s.od1.written ∧
    s.readsAs 0x0C (s.od2.val.extractLsb' 0 32) s.od2.written ∧
    s.readsAs 0x0D (s.od2.val.extractLsb' 32 32) s.od2.written ∧
    s.readsAs 0x0E (s.od3.val.extractLsb' 0 32) s.od3.written ∧
    s.readsAs 0x0F (s.od3.val.extractLsb' 32 32) s.od3.written ∧
    s.readsAs 0x10 (s.od4.val.extractLsb' 0 32) s.od4.written ∧
    s.readsAs 0x11 (s.od4.val.extractLsb' 32 32) s.od4.written ∧
    s.readsAs 0x12 (s.sd.val.setWidth 32) s.sd.written ∧
    s.readsAs 0x13 (s.calV.val.setWidth 32) s.calV.written ∧
    s.readsAs 0x14 (s.calS.val.setWidth 32) s.calS.written ∧
    s.readsAs 0x15 (s.vcoBand.val.setWidth 32) s.vcoBand.written ∧
    ∀ i, i < 107 → s.readsAs (BitVec.ofNat 8 (0x40 + i)) ((Memory.read i s.image).setWidth 32) s.imageWritten

/-- R37: the refused host accesses: a write to an RO register, a read of CMD, any access to a reserved address (0x16..0x3F,
0xAB..0xFF), a CMD write with any of bits [31:2] set. -/
def Obligations.HostAccessesOutsideTheMapAreRefused : Prop :=
  ∀ (s : State) (rest : List Turn), s.ctl.toNat ≤ 9 →
    (∀ (a : BitVec 8) (d : Word), 7 ≤ a.toNat → s.agenda = .present ⟨.hostWrite, 0, a :: wordBytes d⟩ :: rest →
      ∃ why, step s = .refused (.access why)) ∧
    (∀ a : BitVec 8, a.toNat = 6 ∨ (0x16 ≤ a.toNat ∧ a.toNat ≤ 0x3F) ∨ 0xAB ≤ a.toNat →
      (s.agenda = .present ⟨.hostRead, 0, [a]⟩ :: rest → ∃ why, step s = .refused (.access why)) ∧
      ∃ why, exec (.hrd a) s = .refused (.access why)) ∧
    (∀ d : Word, 4 ≤ d.toNat → s.agenda = .present ⟨.hostWrite, 0, 0x06 :: wordBytes d⟩ :: rest →
      ∃ why, step s = .refused (.access why))

/-- 10 section 2 (R24): where each field of STATUS lies in the word the host reads. -/
def Obligations.StatusWordPacksItsFields : Prop :=
  ∀ s : State,
    s.statusWord.getLsbD 0 = s.busy ∧ s.statusWord.extractLsb' 1 3 = s.status.result ∧
    s.statusWord.getLsbD 4 = s.status.lastCmd ∧ s.statusWord.extractLsb' 5 3 = s.status.step ∧
    s.statusWord.extractLsb' 8 3 = s.status.zeroInput ∧ s.statusWord.getLsbD 11 = s.status.calIndet ∧
    s.statusWord.getLsbD 12 = s.status.planValid ∧ s.statusWord.getLsbD 13 = s.status.calValid ∧
    s.statusWord.extractLsb' 14 4 = s.ctl ∧ s.statusWord.extractLsb' 18 14 = 0

/-- 10 section 2 and 20 section 6 (R25, R75): STATUS.BUSY reads as STATE != IDLE; while it is 1 the host may read any
readable register and write any input register, and a write of CMD is refused. That a read of an unwritten register completes
too is the model's choice (log 1). -/
def Obligations.BusyLimitsOnlyCommandWrites : Prop :=
  ∀ s : State,
    (s.statusWord.getLsbD 0 = true ↔ s.ctl ≠ 0) ∧
    (s.ctl ≠ 0 →
      (∀ a, readableAddress a = true → ∃ t, exec (.hrd a) s = .next t) ∧
      (∀ a d, inputAddress a = true → ∃ t, exec (.hwrIn a d) s = .next t) ∧
      ∀ d, ∃ why, exec (.hwrCmd d) s = .refused why)

/-! ### Commands -/

/-- R184: CMD_NOP in IDLE changes no state; it is accepted only in IDLE. -/
def Obligations.NopChangesNothing : Prop :=
  ∀ s : State,
    (s.ctl = 0 → exec .cmdNop s = .next s ∧ exec (.hwrCmd 0) s = .next s) ∧
    (s.ctl ≠ 0 → exec .cmdNop s = .refused .busy ∧ exec (.hwrCmd 0) s = .refused .busy)

/-- R112 and R118, in the step of R185 whose zero check passes: the results of FBDIV, SDSEL, ODIV and PACK, the flags,
STATE = CFG_WRITE; nothing else changes. PACK's bytes are what ImageRegistersFollowTheMap and ImageChannelsFollowTheMap say. Memory.wf is the canonical form
that EveryStepKeepsTheInvariant keeps. -/
def Obligations.ConfigureComputesThePlan : Prop :=
  ∀ s : State, s.ctl = 0 → s.inputsWritten = true → Memory.wf s.image = true →
    s.refHz.val ≠ 0 → s.vcoHz.val ≠ 0 → s.out1Hz.val ≠ 0 → s.out2Hz.val ≠ 0 → s.out3Hz.val ≠ 0 → s.out4Hz.val ≠ 0 →
    ∃ t, exec .cmdConfigure s = .next t ∧ exec (.hwrCmd 1) s = .next t ∧
      t.fb.val.toNat = s.vcoHz.val.toNat * 2 ^ 32 / s.refHz.val.toNat ∧ t.fb.written = true ∧
      t.sd = ⟨if t.fb.val.extractLsb' 0 32 = 0 then 0 else 3, true⟩ ∧
      t.od1.val.toNat = s.vcoHz.val.toNat * 2 ^ 31 / s.out1Hz.val.toNat ∧ t.od1.written = true ∧
      t.od2.val.toNat = s.vcoHz.val.toNat * 2 ^ 31 / s.out2Hz.val.toNat ∧ t.od2.written = true ∧
      t.od3.val.toNat = s.vcoHz.val.toNat * 2 ^ 31 / s.out3Hz.val.toNat ∧ t.od3.written = true ∧
      t.od4.val.toNat = s.vcoHz.val.toNat * 2 ^ 31 / s.out4Hz.val.toNat ∧ t.od4.written = true ∧
      (∀ i, i < 107 → Memory.read i t.image = packByte chip t.storedPlan i) ∧
      t = { s with
        fb := t.fb, sd := t.sd, od1 := t.od1, od2 := t.od2, od3 := t.od3, od4 := t.od4
        image := t.image, imageWritten := true, ctl := 1, txp := false
        status := { s.status with lastCmd := false, result := 0, step := 0, zeroInput := 0, calIndet := false,
                                  planValid := true } }

/-- R111: DCHK reports only the first zero input, in the order REF_HZ, VCO_HZ, OUT1_HZ..OUT4_HZ. The step ends the command with
DomainError and changes nothing else (R252, R254). -/
def Obligations.ConfigureReportsTheFirstZeroInput : Prop :=
  ∀ (s : State) (k : Nat), s.ctl = 0 → s.inputsWritten = true →
    [s.refHz.val, s.vcoHz.val, s.out1Hz.val, s.out2Hz.val, s.out3Hz.val, s.out4Hz.val][k]? = some 0 →
    (∀ j, j < k → [s.refHz.val, s.vcoHz.val, s.out1Hz.val, s.out2Hz.val, s.out3Hz.val, s.out4Hz.val][j]? ≠ some 0) →
    exec .cmdConfigure s = .next { s with
      resp := .empty, txp := false
      status := { s.status with lastCmd := false, result := 3, step := 0, zeroInput := BitVec.ofNat 3 k,
                                calIndet := false, planValid := false } }

/-- The model's choice (log 1), where R38 and R185 say fault(UnwrittenRead): a CONFIGURE with an unwritten input goes on as
one with the same values written, and the fault is recorded, unless one was recorded before. -/
def Obligations.ConfigureWithAnUnwrittenInputIsRecorded : Prop :=
  ∀ s w t : State, s.ctl = 0 → s.inputsWritten = false → w.inputsWritten = true →
    w.request = s.request → s.sameButInputs w → exec .cmdConfigure w = .next t →
    exec .cmdConfigure s = .next { t with
      refHz := s.refHz, vcoHz := s.vcoHz, out1Hz := s.out1Hz, out2Hz := s.out2Hz, out3Hz := s.out3Hz, out4Hz := s.out4Hz
      unwrittenRead := s.unwrittenRead.or (some .configure) }

/-- R186: the accepting step of a CALIBRATE, and nothing else changes. -/
def Obligations.CalibrateEntersTheSequence : Prop :=
  ∀ s : State, s.ctl = 0 →
    exec .cmdCalibrate s = .next { s with
      ctl := 2, txp := false
      status := { s.status with lastCmd := true, result := 0, step := 0, zeroInput := 0, calIndet := false,
                                calValid := false } } ∧
    exec (.hwrCmd 2) s = exec .cmdCalibrate s

/-- R188: a CMD write while STATE != IDLE is refused, whatever its CODE. -/
def Obligations.CommandsWhileBusyAreRefused : Prop :=
  ∀ s : State, s.ctl ≠ 0 →
    exec .cmdNop s = .refused .busy ∧ exec .cmdConfigure s = .refused .busy ∧
    exec .cmdCalibrate s = .refused .busy ∧ exec .cmdRsvd s = .refused .busy ∧
    ∀ d : Word, d.toNat < 4 → exec (.hwrCmd d) s = .refused .busy

/-- R187: CODE 0b11 is refused, in IDLE for its code and otherwise because the block is busy (R188). -/
def Obligations.ReservedCommandIsRefused : Prop :=
  ∀ s : State,
    (s.ctl = 0 → exec .cmdRsvd s = .refused .reservedCode ∧ exec (.hwrCmd 3) s = .refused .reservedCode) ∧
    (s.ctl ≠ 0 → exec .cmdRsvd s = .refused .busy ∧ exec (.hwrCmd 3) s = .refused .busy)

/-- R181: a host write of CMD: reserved bits set are refused first, then a busy block refuses, and else the word's own row
runs. -/
def Obligations.CommandWordRunsItsRow : Prop :=
  ∀ (s : State) (d : Word),
    (4 ≤ d.toNat → exec (.hwrCmd d) s = .refused (.access (.cmdReservedBits d))) ∧
    (d.toNat < 4 → s.ctl ≠ 0 → exec (.hwrCmd d) s = .refused .busy) ∧
    (d = 0 → exec (.hwrCmd d) s = exec .cmdNop s) ∧ (d = 1 → exec (.hwrCmd d) s = exec .cmdConfigure s) ∧
    (d = 2 → exec (.hwrCmd d) s = exec .cmdCalibrate s) ∧ (d = 3 → exec (.hwrCmd d) s = exec .cmdRsvd s)

/-! ### The configuration write and the calibration sequence -/

/-- R190, R211, R214, R218, R222, R230: each issue step, in its state with TXP = 0, sends its request and changes
nothing else. -/
def Obligations.IssueStepsSendTheirRequest : Prop :=
  ∀ s : State, s.txp = false →
    (s.ctl = 1 → exec .stepCfgIssue s =
      .next (s.afterIssue .write ((List.range 107).map (fun i => Memory.read i s.image)))) ∧
    (s.ctl = 2 → exec .stepRdctrlIssue s = .next (s.afterIssue .writeRead [0x1C])) ∧
    (s.ctl = 3 → exec .stepClr1Issue s = .next (s.afterIssue .write [0x1C, s.calV.val &&& 0x7F])) ∧
    (s.ctl = 5 → exec .stepSetIssue s = .next (s.afterIssue .write [0x1C, s.calV.val ||| 0x80])) ∧
    (s.ctl = 7 → exec .stepClr2Issue s = .next (s.afterIssue .write [0x1C, s.calV.val &&& 0x7F])) ∧
    (s.ctl = 9 → exec .stepRdresIssue s = .next (s.afterIssue .writeRead [0x99]))

/-- 30 section 2 (R86): each transaction, in the state that issues it, with the bits its encoding leaves free as the block
holds them, is sent with its exact bytes; a calibration write with other `v` bits is not one the block issues. -/
def Obligations.TransactionRowsSendTheirBytes : Prop :=
  ∀ s : State, s.txp = false →
    (∀ payload, s.ctl = 1 → (List.range 107).map (fun i => Memory.read i s.image) = 0x00 :: payload →
      exec (.txCfg payload) s = .next (s.afterIssue .write (0x00 :: payload))) ∧
    (s.ctl = 2 → exec .txRdctrl s = .next (s.afterIssue .writeRead [0b00011100])) ∧
    (s.ctl = 9 → exec .txRdres s = .next (s.afterIssue .writeRead [0b10011001])) ∧
    ∀ v : BitVec 7,
      (v = s.calV.val.extractLsb' 0 7 →
        (s.ctl = 3 → exec (.txClr1 v) s = .next (s.afterIssue .write [0b00011100, 0b0#1 ++ v])) ∧
        (s.ctl = 5 → exec (.txSet v) s = .next (s.afterIssue .write [0b00011100, 0b1#1 ++ v])) ∧
        (s.ctl = 7 → exec (.txClr2 v) s = .next (s.afterIssue .write [0b00011100, 0b0#1 ++ v]))) ∧
      (v ≠ s.calV.val.extractLsb' 0 7 →
        exec (.txClr1 v) s = .refused .notEnabled ∧ exec (.txSet v) s = .refused .notEnabled ∧
        exec (.txClr2 v) s = .refused .notEnabled)

/-- 43 section 6 (R227): bit 7 of the three payloads is 0, 1, 0, and bits [6:0] are CAL_V's. -/
def Obligations.CalibrationPayloadsKeepTheLowBits : Prop :=
  ∀ v : Byte,
    (clearPayload v).getLsbD 7 = false ∧ (setPayload v).getLsbD 7 = true ∧
    (clearPayload v).extractLsb' 0 7 = v.extractLsb' 0 7 ∧ (setPayload v).extractLsb' 0 7 = v.extractLsb' 0 7

/-- R191, R212, R215, R219, R223, R232: each complete step with OK, and nothing else changes. -/
def Obligations.CompleteStepsWithOk : Prop :=
  ∀ (s : State) (v : Byte), s.txp = true →
    (s.ctl = 1 → s.resp = .ok [] → exec .stepCfgDone s = .next
      { s with resp := .empty, txp := false, ctl := 0, status := { s.status with result := 1 } }) ∧
    (s.ctl = 2 → s.resp = .ok [v] → exec .stepRdctrlDone s = .next
      { s with calV := ⟨v, true⟩, resp := .empty, txp := false, ctl := 3 }) ∧
    (s.ctl = 3 → s.resp = .ok [] → exec .stepClr1Done s = .next
      { s with resp := .empty, txp := false, ctl := 4, texp := false }) ∧
    (s.ctl = 5 → s.resp = .ok [] → exec .stepSetDone s = .next
      { s with resp := .empty, txp := false, ctl := 6, texp := false }) ∧
    (s.ctl = 7 → s.resp = .ok [] → exec .stepClr2Done s = .next
      { s with resp := .empty, txp := false, ctl := 8, texp := false }) ∧
    (s.ctl = 9 → s.resp = .ok [v] → exec .stepRdresDone s = .next
      { s with calS := ⟨v, true⟩, vcoBand := ⟨v.extractLsb' 3 5, true⟩, resp := .empty, txp := false, ctl := 0
               status := { s.status with calValid := true, result := 1 } })

/-- R192, R213, R216, R220, R224, R233: each complete step with FAIL raises TransportError with its step code, and CAL_INDET for
the three writes; nothing else changes. -/
def Obligations.CompleteStepsWithFail : Prop :=
  ∀ s : State, s.txp = true → s.resp = .fail →
    (s.ctl = 1 → exec .stepCfgDone s = .next (s.afterTransportError 0 s.status.calIndet)) ∧
    (s.ctl = 2 → exec .stepRdctrlDone s = .next (s.afterTransportError 1 s.status.calIndet)) ∧
    (s.ctl = 3 → exec .stepClr1Done s = .next (s.afterTransportError 2 true)) ∧
    (s.ctl = 5 → exec .stepSetDone s = .next (s.afterTransportError 3 true)) ∧
    (s.ctl = 7 → exec .stepClr2Done s = .next (s.afterTransportError 4 true)) ∧
    (s.ctl = 9 → exec .stepRdresDone s = .next (s.afterTransportError 5 s.status.calIndet))

/-- 43 sections 3 to 5 (R217, R221, R225): each wait step, enabled only when TEXP = 1, clears it and goes on; nothing else
changes. That a wait step presented while TEXP = 0 is refused is the model's reading (log 7): the rules say that the block has
no step then. -/
def Obligations.WaitStepsLeaveWhenTheDelayHasEnded : Prop :=
  ∀ (s : State) (st : BitVec 4) (leave : Instr) (after : BitVec 4), (st, leave, after) ∈ waitSteps → s.ctl = st →
    (s.texp = true → exec leave s = .next { s with texp := false, ctl := after }) ∧
    (s.texp = false → exec leave s = .refused .notEnabled)

/-! ### The other agents -/

/-- 42 section 4 (R193): the transport's turn answers an outstanding request with FAIL or with OK and exactly rlen bytes,
any of them, and changes nothing else. That it moves nothing when it is not enabled is the model's choice (log 4). -/
def Obligations.TransportAnswersTheOutstandingRequest : Prop :=
  ∀ (s : State) (rest : List Turn) (d : Draw), s.agenda = .transport d :: rest → s.ctl.toNat ≤ 9 →
    (¬ (s.txp = true ∧ s.resp = .empty) → step s = .next { s with agenda := rest }) ∧
    (s.txp = true → s.resp = .empty →
      (d = .fail → step s = .next { s with agenda := rest, resp := .fail }) ∧
      (∀ b, d = .ok b → s.txreq.kind = .write → step s = .next { s with agenda := rest, resp := .ok [] }) ∧
      (∀ b, d = .ok b → s.txreq.kind = .writeRead → step s = .next { s with agenda := rest, resp := .ok [b] }))

/-- 60 section 7 (R262): the turn of time, in a wait state with TEXP = 0, sets TEXP and changes nothing else. That it moves
nothing when it is not enabled is the model's choice (log 4). -/
def Obligations.TimeEndsTheSettleDelay : Prop :=
  ∀ (s : State) (rest : List Turn), s.agenda = .time :: rest → s.ctl.toNat ≤ 9 →
    (waitState s.ctl = true → s.texp = false → step s = .next { s with agenda := rest, texp := true }) ∧
    (¬ (waitState s.ctl = true ∧ s.texp = false) → step s = .next { s with agenda := rest })

/-! ### Whole-machine rules -/

/-- R31: no step enters the codes 10 to 15, and a machine whose STATE holds one of them has no step but a reset: it faults. -/
def Obligations.ReservedStateIsStuck : Prop :=
  ∀ s : State,
    (10 ≤ s.ctl.toNat → s.agenda.head? ≠ some .reset → step s = .fault (.reservedState s.ctl)) ∧
    (10 ≤ s.ctl.toNat → exec (.stepRsvd s.ctl) s = .fault (.reservedState s.ctl)) ∧
    ∀ t, step s = .next t → t.ctl.toNat ≤ 9

/-- 10 section 2 (R31): the STEP_RSVD row faults with its code in every state. That it does so where STATE does not hold that
code is the model's choice (log 19). -/
def Obligations.ReservedStepFaultsWhereverItIsPresented : Prop :=
  ∀ (s : State) (code : BitVec 4), exec (.stepRsvd code) s = .fault (.reservedState code)

/-- 43 section 1 and 10 section 2 (R210, R30): a step that is no reset leaves STATE alone or follows the table. -/
def Obligations.ControlStateFollowsTheTable : Prop :=
  ∀ s t : State, step s = .next t → s.agenda.head? ≠ some .reset →
    t.ctl = s.ctl ∨ (s.ctl, t.ctl) ∈ controlEdges

/-- R68: a step that issues a transaction issues one of the six forms, and in its state; and an outstanding
request stays as it was issued. -/
def Obligations.OnlyTheSixTransactionsAreIssued : Prop :=
  ∀ s t : State, step s = .next t → t.txp = true →
    (s.txp = false →
      (s.ctl = 1 ∧ t.txreq = ⟨.write, 0x6A, (List.range 107).map (fun i => Memory.read i s.image)⟩) ∨
      (s.ctl = 2 ∧ t.txreq = ⟨.writeRead, 0x6A, [0x1C]⟩) ∨
      ((s.ctl = 3 ∨ s.ctl = 7) ∧ t.txreq = ⟨.write, 0x6A, [0x1C, s.calV.val &&& 0x7F]⟩) ∨
      (s.ctl = 5 ∧ t.txreq = ⟨.write, 0x6A, [0x1C, s.calV.val ||| 0x80]⟩) ∨
      (s.ctl = 9 ∧ t.txreq = ⟨.writeRead, 0x6A, [0x99]⟩)) ∧
    (s.txp = true → t.txreq = s.txreq)

/-- R254: a step that raises an error (it changes STATUS, and RESULT is an error's code after it) empties RESP, clears TXP, goes
to IDLE, writes the error's report into STATUS (R251, R252) and changes nothing else: it keeps every register, the image
and TEXP. The record of an unwritten input is the model's own (log 1). -/
def Obligations.ErrorsChangeOnlyTheirReport : Prop :=
  ∀ (i : Instr) (s t : State), exec i s = .next t → t.status ≠ s.status →
    (t.status.result = 2 ∨ t.status.result = 3) →
    t.resp = .empty ∧ t.txp = false ∧ t.ctl = 0 ∧ t.busy = false ∧
    (t.status.result = 2 → s.resp = .fail ∧
      ∃ code indet, (s.ctl, code, indet) ∈ errorReports ∧
        t.status = { s.status with result := 2, step := code, calIndet := s.status.calIndet || indet }) ∧
    (t.status.result = 3 → s.ctl = 0 ∧
      ∃ k, dchk s.request = some k ∧
        t.status = { s.status with lastCmd := false, result := 3, step := 0, zeroInput := k, calIndet := false,
                                   planValid := false }) ∧
    t = { s with resp := t.resp, txp := t.txp, ctl := t.ctl, status := t.status, unwrittenRead := t.unwrittenRead }

/-- 10 section 2 and 20 section 1 (R22, R60): the results and the image change only in the step that goes from IDLE to
CFG_WRITE (or by a reset); every byte of the image is kept by every other step. -/
def Obligations.ResultsChangeOnlyWhenAPlanIsMade : Prop :=
  ∀ s t : State, step s = .next t → s.agenda.head? ≠ some .reset → ¬ (s.ctl = 0 ∧ t.ctl = 1) →
    t.fb = s.fb ∧ t.sd = s.sd ∧ t.od1 = s.od1 ∧ t.od2 = s.od2 ∧ t.od3 = s.od3 ∧ t.od4 = s.od4 ∧
    t.imageWritten = s.imageWritten ∧ ∀ i, Memory.read i t.image = Memory.read i s.image

/-- 10 section 2 (R23): CAL_V changes only in a successful step 1, CAL_S and VCO_BAND only in a successful step 5 (or by
a reset). -/
def Obligations.CalibrationRegistersChangeOnlyInTheirSteps : Prop :=
  ∀ s t : State, step s = .next t → s.agenda.head? ≠ some .reset →
    (t.calV = s.calV ∨ (s.ctl = 2 ∧ t.ctl = 3 ∧ ∃ v, s.resp = .ok [v] ∧ t.calV = ⟨v, true⟩)) ∧
    ((t.calS = s.calS ∧ t.vcoBand = s.vcoBand) ∨
      (s.ctl = 9 ∧ t.ctl = 0 ∧ ∃ v, s.resp = .ok [v] ∧ t.calS = ⟨v, true⟩ ∧ t.vcoBand = ⟨v.extractLsb' 3 5, true⟩))

/-- R287: the running command does not read the input registers: two states that differ only in them make the same step,
and differ only in them after it. -/
def Obligations.RunningCommandIgnoresTheInputs : Prop :=
  ∀ s s' t : State, s.sameButInputs s' → s.noHostTurn = true → step s = .next t →
    ∃ t', step s' = .next t' ∧ t.sameButInputs t'

/-- 20 section 6 and 70 section 3 (R73, R286): in a wait state nothing is issued, the state is left only once TEXP = 1, and
only a turn of time sets TEXP. -/
def Obligations.SettleDelaysAreKept : Prop :=
  ∀ s t : State, step s = .next t → s.agenda.head? ≠ some .reset →
    (waitState s.ctl = true → s.txp = false → t.txp = false ∧ t.txreq = s.txreq ∧ (s.texp = false → t.ctl = s.ctl)) ∧
    (s.texp = false → t.texp = true → s.agenda.head? = some .time ∧ waitState s.ctl = true)

/-- 60 section 1 (R250): a recorded fault is never cleared, not by a reset either; that it is recorded in a field is
the model's choice (log 1). -/
def Obligations.RecordedFaultIsNeverCleared : Prop :=
  ∀ (s t : State) (m : UnwrittenRead), step s = .next t → s.unwrittenRead = some m → t.unwrittenRead = some m

/-- 43 section 8 (R235): a CALIBRATE, from its accepted state, whatever turns the run takes, issues the five transactions in
their fixed order; one that ends with OK has issued all five, and one that fails at step k exactly the first k. -/
def Obligations.CalibrationIssuesTheFiveTransactions : Prop :=
  ∀ (n : Nat) (s : State) (issued : List TxReq) (t u : State), s.ctl = 2 → s.txp = false →
    busyRun n s = some (issued, t) → step t = .next u → u.busy = false → t.agenda.head? ≠ some .reset →
    (u.status.result = 1 ∧ issued = calibrationSequence t.calV.val) ∨
    (u.status.result = 2 ∧ 1 ≤ u.status.step.toNat ∧ u.status.step.toNat ≤ 5 ∧
      issued = (calibrationSequence t.calV.val).take u.status.step.toNat)

/-- 42 section 4 (R194): a CONFIGURE whose zero check passed, whatever turns the run takes, issues exactly one transaction,
the image of the state it was accepted in. -/
def Obligations.ConfigurationIssuesOneTransaction : Prop :=
  ∀ (n : Nat) (s : State) (issued : List TxReq) (t u : State), s.ctl = 1 → s.txp = false →
    busyRun n s = some (issued, t) → step t = .next u → u.busy = false → t.agenda.head? ≠ some .reset →
    (u.status.result = 1 ∨ (u.status.result = 2 ∧ u.status.step = 0)) ∧ issued = [s.cfgRequest]

/-- 60 sections 7 and 8 (R262, R267): with every request answered and every delay ended, a running command ends. Thirteen
rounds of the block, the transport and time are enough for any command, whatever the answers. -/
def Obligations.AnsweredCommandEnds : Prop :=
  ∀ (s : State) (draws : List Draw), s.Inv → s.busy = true → 13 ≤ draws.length →
    s.agenda = draws.flatMap (fun d => [.block, .transport d, .time]) →
    ∃ t, Host.Core.run Sys2Proof.core (3 * draws.length) s = .next t ∧ State.busy t = false ∧
      (State.status t).result ≠ 0

/-! ### The calculator -/

/-- 40 sections 2 and 4 (R112, R118): the calculator's dividers are the truncated quotients of the scaled VCO frequency; nothing is lost in 64 bits. -/
def Obligations.DividersAreTruncatedQuotients : Prop :=
  ∀ r : Request, dchk r = none →
    r.plan.fb.toNat = r.vco.toNat * 2 ^ 32 / r.ref.toNat ∧
    r.plan.od1.toNat = r.vco.toNat * 2 ^ 31 / r.out1.toNat ∧ r.plan.od2.toNat = r.vco.toNat * 2 ^ 31 / r.out2.toNat ∧
    r.plan.od3.toNat = r.vco.toNat * 2 ^ 31 / r.out3.toNat ∧ r.plan.od4.toNat = r.vco.toNat * 2 ^ 31 / r.out4.toNat

/-- 40 section 2 (R113, R114): FB's range, its integer and fraction parts, and its accuracy. -/
def Obligations.FeedbackDividerRangeAndAccuracy : Prop :=
  ∀ r : Request, dchk r = none →
    0 < r.plan.fb.toNat ∧ r.plan.fb.toNat ≤ 0xFFFFFFFF00000000 ∧
    (r.plan.fb.extractLsb' 32 32).toNat = r.vco.toNat / r.ref.toNat ∧
    (r.plan.fb.extractLsb' 0 32).toNat = (r.vco.toNat % r.ref.toNat) * 2 ^ 32 / r.ref.toNat ∧
    r.plan.fb.toNat * r.ref.toNat ≤ r.vco.toNat * 2 ^ 32 ∧
    r.vco.toNat * 2 ^ 32 < (r.plan.fb.toNat + 1) * r.ref.toNat

/-- 40 section 4 (R119): ODn's accuracy and its largest value. -/
def Obligations.OutputDividerRangeAndAccuracy : Prop :=
  ∀ vco out : Word, out ≠ 0 →
    (odiv vco out).toNat * out.toNat ≤ vco.toNat * 2 ^ 31 ∧
    vco.toNat * 2 ^ 31 < ((odiv vco out).toNat + 1) * out.toNat ∧
    (odiv vco out).toNat ≤ 0x7FFFFFFF80000000

/-- 40 section 3 (R115): SD is Off exactly when REF_HZ divides VCO_HZ. -/
def Obligations.SigmaDeltaOffIffExactMultiple : Prop :=
  ∀ r : Request, dchk r = none → (r.plan.sd = 0 ↔ r.ref.toNat ∣ r.vco.toNat)

/-- R117: the codes 1 and 2 are never produced, so register 0x18 bits [1:0] are 0b00 or 0b11. -/
def Obligations.SigmaDeltaOrderIsNeverOneOrTwo : Prop :=
  ∀ r : Request, (r.plan.sd = 0b00 ∨ r.plan.sd = 0b11) ∧
    ((packRegister chip r.plan 0x18).extractLsb' 0 2 = 0b00 ∨ (packRegister chip r.plan 0x18).extractLsb' 0 2 = 0b11)

/-! ### The image -/

/-- R142 to R149, R155, R156: the image bytes outside the channel blocks, for every template and all flags. -/
def Obligations.ImageRegistersFollowTheMap : Prop :=
  ∀ (T : Nat → Byte) (F : ChipFlags) (p : Plan),
    let c : Config := { chip with template := T, flags := F }
    packByte c p 0 = 0x00 ∧
    (∀ r, r ≤ 0x0F ∨ (0x11 ≤ r ∧ r ≤ 0x16) ∨ (0x1D ≤ r ∧ r ≤ 0x20) ∨ (0x60 ≤ r ∧ r ≤ 0x69) →
      packByte c p (r + 1) = T r) ∧
    packByte c p (0x10 + 1) = BitVec.ofBool F.xtalEn ++ BitVec.ofBool F.clkinEn ++ (T 0x10).extractLsb' 2 4
      ++ BitVec.ofBool F.sleep ++ BitVec.ofBool F.shutdownEn ∧
    packByte c p (0x17 + 1) = p.fb.extractLsb' 36 8 ∧
    packByte c p (0x18 + 1) = p.fb.extractLsb' 32 4 ++ 0b00#2 ++ p.sd ∧
    packByte c p (0x19 + 1) = p.fb.extractLsb' 24 8 ∧ packByte c p (0x1A + 1) = p.fb.extractLsb' 16 8 ∧
    packByte c p (0x1B + 1) = p.fb.extractLsb' 8 8 ∧
    packByte c p (0x1C + 1) = BitVec.ofBool F.calStart ++ (T 0x1C).extractLsb' 0 7

/-- R151 to R154: the channel blocks at 0x21, 0x31, 0x41 and 0x51, and the registers between them, for every template and all
flags. -/
def Obligations.ImageChannelsFollowTheMap : Prop :=
  ∀ (T : Nat → Byte) (F : ChipFlags) (p : Plan) (b : Nat) (od : DWord),
    (b, od) ∈ [(0x21, p.od1), (0x31, p.od2), (0x41, p.od3), (0x51, p.od4)] →
    let c : Config := { chip with template := T, flags := F }
    packByte c p (b + 0x1 + 1) = od.extractLsb' 24 8 ∧ packByte c p (b + 0x2 + 1) = od.extractLsb' 16 8 ∧
    packByte c p (b + 0x3 + 1) = od.extractLsb' 8 8 ∧ packByte c p (b + 0x4 + 1) = od.extractLsb' 2 6 ++ 0b00#2 ∧
    packByte c p (b + 0xC + 1) = od.extractLsb' 36 8 ∧ packByte c p (b + 0xD + 1) = od.extractLsb' 32 4 ++ 0x0#4 ∧
    ∀ r, r = b ∨ (b + 0x5 ≤ r ∧ r ≤ b + 0xB) ∨ r = b + 0xE ∨ r = 0x30 ∨ r = 0x40 ∨ r = 0x50 → packByte c p (r + 1) = T r

/-- R158: the image is a function of the six inputs and the configuration alone: two CONFIGUREs with the same inputs leave the
same image, whatever the images before them; it has 107 bytes and starts with 0x00. -/
def Obligations.ImageDependsOnTheInputsAlone : Prop :=
  ∀ s s' t t' : State, s.request = s'.request → dchk s.request = none →
    Memory.wf s.image = true → Memory.wf s'.image = true →
    exec .cmdConfigure s = .next t → exec .cmdConfigure s' = .next t' →
    t.image = t'.image ∧ t.image.imageBytes.length = 107 ∧ t.image.imageBytes[0]? = some 0x00

/-- 41 section 6 (R157): the bits FB[63:44], FB[7:0], ODn[63:44] and ODn[1:0] do not reach the image. -/
def Obligations.ImageIgnoresTheDroppedBits : Prop :=
  ∀ p q : Plan, p.sd = q.sd → p.fb.extractLsb' 8 36 = q.fb.extractLsb' 8 36 →
    p.od1.extractLsb' 2 42 = q.od1.extractLsb' 2 42 → p.od2.extractLsb' 2 42 = q.od2.extractLsb' 2 42 →
    p.od3.extractLsb' 2 42 = q.od3.extractLsb' 2 42 → p.od4.extractLsb' 2 42 = q.od4.extractLsb' 2 42 →
    packBytes chip p = packBytes chip q
end

