-- ==== Sys2Proof/Laws/Memory.lean ====
section
/-! SUPPORT. The laws of the image buffer: read after write, the canonical form, and the bytes of a build. -/

namespace Sys2Proof.Machine

@[simp] theorem Memory.read_nil (a : Nat) : Memory.read a [] = Memory.unlisted := rfl

/-- Reading at or below the index in front finds nothing behind it. -/
theorem Memory.read_of_rising {a lo : Nat} {m : Memory} (h : Memory.risingFrom lo m = true) (ha : a < lo) :
    Memory.read a m = Memory.unlisted := by
  induction m generalizing lo with
  | nil => rfl
  | cons c m ih =>
    obtain ⟨b, w⟩ := c
    simp only [Memory.risingFrom, Bool.and_eq_true, decide_eq_true_eq] at h
    simp only [Memory.read]
    rw [if_neg (by omega)]
    exact ih h.2 (by omega)

theorem Memory.risingFrom_mono {lo lo' : Nat} {m : Memory} (h : Memory.risingFrom lo m = true) (hl : lo' ≤ lo) :
    Memory.risingFrom lo' m = true := by
  cases m with
  | nil => rfl
  | cons c m =>
    obtain ⟨b, w⟩ := c
    simp only [Memory.risingFrom, Bool.and_eq_true, decide_eq_true_eq] at h ⊢
    exact ⟨⟨by omega, h.1.2⟩, h.2⟩

theorem Memory.risingFrom_cons {a lo : Nat} {v : Byte} {m : Memory} (h : Memory.risingFrom (a + 1) m = true)
    (hl : lo ≤ a) : Memory.risingFrom lo (Memory.cons a v m) = true := by
  unfold Memory.cons
  split
  · exact Memory.risingFrom_mono h (by omega)
  · simp_all [Memory.risingFrom]

theorem Memory.read_cons {a b : Nat} {v : Byte} {m : Memory} (h : Memory.risingFrom (a + 1) m = true) :
    Memory.read b (Memory.cons a v m) = if b = a then v else Memory.read b m := by
  unfold Memory.cons
  split
  · next hv =>
    split
    · next hb => rw [Memory.read_of_rising h (by omega), hv]
    · rfl
  · rfl

/-- A write keeps the indexes rising. -/
theorem Memory.risingFrom_write {a lo : Nat} {v : Byte} {m : Memory} (h : Memory.risingFrom lo m = true)
    (hl : lo ≤ a) : Memory.risingFrom lo (Memory.write a v m) = true := by
  induction m generalizing lo with
  | nil => exact Memory.risingFrom_cons rfl hl
  | cons c m ih =>
    obtain ⟨b, w⟩ := c
    have h' := h
    simp only [Memory.risingFrom, Bool.and_eq_true, decide_eq_true_eq] at h
    unfold Memory.write
    split
    · refine Memory.risingFrom_cons ?_ hl
      simp only [Memory.risingFrom, Bool.and_eq_true, decide_eq_true_eq]
      exact ⟨⟨by omega, h.1.2⟩, h.2⟩
    · split
      · next hab => subst hab; exact Memory.risingFrom_cons h.2 hl
      · simp only [Memory.risingFrom, Bool.and_eq_true, decide_eq_true_eq]
        exact ⟨h.1, ih h.2 (by omega)⟩

/-- Reading after a write, in a memory whose indexes rise. -/
theorem Memory.read_write_of_rising {a b lo : Nat} {v : Byte} {m : Memory} (h : Memory.risingFrom lo m = true) :
    Memory.read b (Memory.write a v m) = if b = a then v else Memory.read b m := by
  induction m generalizing lo with
  | nil => exact Memory.read_cons rfl
  | cons c m ih =>
    obtain ⟨k, w⟩ := c
    have h' := h
    simp only [Memory.risingFrom, Bool.and_eq_true, decide_eq_true_eq] at h
    unfold Memory.write
    split
    · refine Memory.read_cons ?_
      simp only [Memory.risingFrom, Bool.and_eq_true, decide_eq_true_eq]
      exact ⟨⟨by omega, h.1.2⟩, h.2⟩
    · split
      · next hak =>
        subst hak
        rw [Memory.read_cons h.2]
        simp only [Memory.read]
        split <;> rfl
      · simp only [Memory.read]
        split
        · next hbk => rw [if_neg (by omega)]
        · exact ih h.2

theorem Memory.all_cons {q : Host.Cell → Bool} {a : Nat} {v : Byte} {m : Memory} (h : m.all q = true)
    (ha : q (a, v) = true) : (Memory.cons a v m).all q = true := by
  unfold Memory.cons
  split
  · exact h
  · rw [List.all_cons, ha, h]; rfl

theorem Memory.all_write {q : Host.Cell → Bool} {a : Nat} {v : Byte} {m : Memory} (h : m.all q = true)
    (ha : q (a, v) = true) : (Memory.write a v m).all q = true := by
  induction m with
  | nil => exact Memory.all_cons rfl ha
  | cons c m ih =>
    obtain ⟨b, w⟩ := c
    have h' := h
    rw [List.all_cons, Bool.and_eq_true] at h
    unfold Memory.write
    split
    · exact Memory.all_cons h' ha
    · split
      · exact Memory.all_cons h.2 ha
      · rw [List.all_cons, h.1, ih h.2]; rfl

/-- The canonical form is kept by a write inside the image. -/
theorem Memory.wf_write {a : Nat} {v : Byte} {m : Memory} (h : Memory.wf m = true) (ha : a < imageLength) :
    Memory.wf (Memory.write a v m) = true := by
  simp only [Memory.wf, Bool.and_eq_true] at h ⊢
  exact ⟨Memory.risingFrom_write h.1 (Nat.zero_le _), Memory.all_write h.2 (by simpa using ha)⟩

/-- Reading after a write. -/
theorem Memory.read_write {a b : Nat} {v : Byte} {m : Memory} (h : Memory.wf m = true) :
    Memory.read b (Memory.write a v m) = if b = a then v else Memory.read b m := by
  simp only [Memory.wf, Bool.and_eq_true] at h
  exact Memory.read_write_of_rising h.1

/-- The canonical form is kept by a run of writes inside the image. -/
theorem Memory.wf_writeBytes {bytes : List Byte} {a : Nat} {m : Memory} (h : Memory.wf m = true)
    (ha : a + bytes.length ≤ imageLength) : Memory.wf (Memory.writeBytes a bytes m) = true := by
  induction bytes generalizing a m with
  | nil => exact h
  | cons v vs ih =>
    simp only [List.length_cons] at ha
    exact ih (Memory.wf_write h (by omega)) (by omega)

theorem Memory.risingFrom_writeBytes {bytes : List Byte} {a : Nat} {m : Memory}
    (h : Memory.risingFrom 0 m = true) : Memory.risingFrom 0 (Memory.writeBytes a bytes m) = true := by
  induction bytes generalizing a m with
  | nil => exact h
  | cons v vs ih => exact ih (Memory.risingFrom_write h (Nat.zero_le _))

/-- Reading after a run of writes. -/
theorem Memory.read_writeBytes {bytes : List Byte} {a b : Nat} {m : Memory} (h : Memory.risingFrom 0 m = true) :
    Memory.read b (Memory.writeBytes a bytes m) =
      if a ≤ b then (bytes[b - a]?).getD (Memory.read b m) else Memory.read b m := by
  induction bytes generalizing a m with
  | nil => simp [Memory.writeBytes]
  | cons v vs ih =>
    rw [Memory.writeBytes, ih (Memory.risingFrom_write h (Nat.zero_le _)), Memory.read_write_of_rising h]
    rcases Nat.lt_trichotomy b a with hb | hb | hb
    · rw [if_neg (by omega), if_neg (by omega), if_neg (by omega)]
    · subst hb; simp
    · rw [if_pos (by omega), if_neg (by omega), if_pos (by omega)]
      rw [show b - a = (b - (a + 1)) + 1 by omega, List.getElem?_cons_succ]

/-- A canonical memory is its bytes: two canonical memories that read alike are equal. -/
theorem Memory.ext_of_rising {m n : Memory} {lo : Nat} (hm : Memory.risingFrom lo m = true)
    (hn : Memory.risingFrom lo n = true) (h : ∀ a, lo ≤ a → Memory.read a m = Memory.read a n) : m = n := by
  induction m generalizing n lo with
  | nil =>
    cases n with
    | nil => rfl
    | cons c n =>
      obtain ⟨b, w⟩ := c
      simp only [Memory.risingFrom, Bool.and_eq_true, decide_eq_true_eq, bne_iff_ne] at hn
      have := h b hn.1.1
      simp only [Memory.read, if_true] at this
      exact absurd this.symm hn.1.2
  | cons c m ih =>
    obtain ⟨a, v⟩ := c
    have hm' := hm
    simp only [Memory.risingFrom, Bool.and_eq_true, decide_eq_true_eq, bne_iff_ne] at hm
    cases n with
    | nil =>
      have := h a hm.1.1
      simp only [Memory.read, if_true] at this
      exact absurd this hm.1.2
    | cons d n =>
      obtain ⟨b, w⟩ := d
      have hn' := hn
      simp only [Memory.risingFrom, Bool.and_eq_true, decide_eq_true_eq, bne_iff_ne] at hn
      have hab : a = b := by
        rcases Nat.lt_trichotomy a b with hlt | heq | hgt
        · have := h a hm.1.1
          simp only [Memory.read, if_true] at this
          rw [if_neg (by omega), Memory.read_of_rising hn.2 (by omega)] at this
          exact absurd this hm.1.2
        · exact heq
        · have := h b hn.1.1
          simp only [Memory.read, if_true] at this
          rw [if_neg (by omega), Memory.read_of_rising hm.2 (by omega)] at this
          exact absurd this.symm hn.1.2
      subst hab
      have hvw : v = w := by
        have := h a hm.1.1
        simpa [Memory.read] using this
      subst hvw
      congr 1
      refine ih hm.2 hn.2 (fun k hk => ?_)
      have := h k (by omega)
      simp only [Memory.read] at this
      rwa [if_neg (by omega), if_neg (by omega)] at this

theorem Memory.rising_of_wf {m : Memory} (h : Memory.wf m = true) : Memory.risingFrom 0 m = true := by
  simp only [Memory.wf, Bool.and_eq_true] at h
  exact h.1

/-- Past the 107 bytes that exist nothing is listed. -/
theorem Memory.read_past_end {m : Memory} {a : Nat} (h : Memory.wf m = true) (ha : imageLength ≤ a) :
    Memory.read a m = Memory.unlisted := by
  simp only [Memory.wf, Bool.and_eq_true] at h
  have hall := h.2
  clear h
  induction m with
  | nil => rfl
  | cons c m ih =>
    obtain ⟨b, w⟩ := c
    simp only [List.all_cons, Bool.and_eq_true, decide_eq_true_eq] at hall
    simp only [Memory.read]
    rw [if_neg (by omega)]
    exact ih hall.2

/-- Two canonical images with the same 107 bytes are equal. -/
theorem Memory.ext_of_wf {m n : Memory} (hm : Memory.wf m = true) (hn : Memory.wf n = true)
    (h : ∀ a, a < imageLength → Memory.read a m = Memory.read a n) : m = n := by
  refine Memory.ext_of_rising (Memory.rising_of_wf hm) (Memory.rising_of_wf hn) (fun a _ => ?_)
  by_cases ha : a < imageLength
  · exact h a ha
  · rw [Memory.read_past_end hm (by omega), Memory.read_past_end hn (by omega)]

@[simp] theorem Memory.length_imageBytes (m : Memory) : m.imageBytes.length = imageLength := by
  simp [Memory.imageBytes]

@[simp] theorem length_packBytes (c : Config) (p : Plan) : (packBytes c p).length = imageLength := by
  simp [packBytes]

theorem packBytes_getElem? (c : Config) (p : Plan) {i : Nat} (h : i < imageLength) :
    (packBytes c p)[i]? = some (packByte c p i) := by
  simp [packBytes, h]

/-- After a build, image byte `i` is PACK's. -/
theorem Memory.read_build {m : Memory} (h : Memory.risingFrom 0 m = true) (c : Config) (p : Plan) {i : Nat}
    (hi : i < imageLength) : Memory.read i (Memory.writeBytes 0 (packBytes c p) m) = packByte c p i := by
  rw [Memory.read_writeBytes h, if_pos (Nat.zero_le _), Nat.sub_zero, packBytes_getElem? c p hi]
  rfl

/-- After a build, the image is PACK's 107 bytes. -/
theorem Memory.imageBytes_build {m : Memory} (h : Memory.risingFrom 0 m = true) (c : Config) (p : Plan) :
    (Memory.writeBytes 0 (packBytes c p) m).imageBytes = packBytes c p := by
  unfold Memory.imageBytes packBytes
  apply List.map_congr_left
  intro i hi
  exact Memory.read_build h c p (List.mem_range.mp hi)

end Sys2Proof.Machine
end

