-- ==== Sys2Proof/Laws/State.lean ====
section
/-! SUPPORT. One lemma for each field of State and of Status under each named update, so that no proof unfolds a
record update. -/

namespace Sys2Proof.Machine

@[simp] theorem State.recordUnwritten_refHz (s : State) (m : UnwrittenRead) : (s.recordUnwritten m).refHz = s.refHz := rfl
@[simp] theorem State.recordUnwritten_vcoHz (s : State) (m : UnwrittenRead) : (s.recordUnwritten m).vcoHz = s.vcoHz := rfl
@[simp] theorem State.recordUnwritten_out1Hz (s : State) (m : UnwrittenRead) : (s.recordUnwritten m).out1Hz = s.out1Hz := rfl
@[simp] theorem State.recordUnwritten_out2Hz (s : State) (m : UnwrittenRead) : (s.recordUnwritten m).out2Hz = s.out2Hz := rfl
@[simp] theorem State.recordUnwritten_out3Hz (s : State) (m : UnwrittenRead) : (s.recordUnwritten m).out3Hz = s.out3Hz := rfl
@[simp] theorem State.recordUnwritten_out4Hz (s : State) (m : UnwrittenRead) : (s.recordUnwritten m).out4Hz = s.out4Hz := rfl
@[simp] theorem State.recordUnwritten_fb (s : State) (m : UnwrittenRead) : (s.recordUnwritten m).fb = s.fb := rfl
@[simp] theorem State.recordUnwritten_od1 (s : State) (m : UnwrittenRead) : (s.recordUnwritten m).od1 = s.od1 := rfl
@[simp] theorem State.recordUnwritten_od2 (s : State) (m : UnwrittenRead) : (s.recordUnwritten m).od2 = s.od2 := rfl
@[simp] theorem State.recordUnwritten_od3 (s : State) (m : UnwrittenRead) : (s.recordUnwritten m).od3 = s.od3 := rfl
@[simp] theorem State.recordUnwritten_od4 (s : State) (m : UnwrittenRead) : (s.recordUnwritten m).od4 = s.od4 := rfl
@[simp] theorem State.recordUnwritten_sd (s : State) (m : UnwrittenRead) : (s.recordUnwritten m).sd = s.sd := rfl
@[simp] theorem State.recordUnwritten_calV (s : State) (m : UnwrittenRead) : (s.recordUnwritten m).calV = s.calV := rfl
@[simp] theorem State.recordUnwritten_calS (s : State) (m : UnwrittenRead) : (s.recordUnwritten m).calS = s.calS := rfl
@[simp] theorem State.recordUnwritten_vcoBand (s : State) (m : UnwrittenRead) : (s.recordUnwritten m).vcoBand = s.vcoBand := rfl
@[simp] theorem State.recordUnwritten_status (s : State) (m : UnwrittenRead) : (s.recordUnwritten m).status = s.status := rfl
@[simp] theorem State.recordUnwritten_ctl (s : State) (m : UnwrittenRead) : (s.recordUnwritten m).ctl = s.ctl := rfl
@[simp] theorem State.recordUnwritten_image (s : State) (m : UnwrittenRead) : (s.recordUnwritten m).image = s.image := rfl
@[simp] theorem State.recordUnwritten_imageWritten (s : State) (m : UnwrittenRead) : (s.recordUnwritten m).imageWritten = s.imageWritten := rfl
@[simp] theorem State.recordUnwritten_txp (s : State) (m : UnwrittenRead) : (s.recordUnwritten m).txp = s.txp := rfl
@[simp] theorem State.recordUnwritten_txreq (s : State) (m : UnwrittenRead) : (s.recordUnwritten m).txreq = s.txreq := rfl
@[simp] theorem State.recordUnwritten_resp (s : State) (m : UnwrittenRead) : (s.recordUnwritten m).resp = s.resp := rfl
@[simp] theorem State.recordUnwritten_texp (s : State) (m : UnwrittenRead) : (s.recordUnwritten m).texp = s.texp := rfl
@[simp] theorem State.recordUnwritten_hostData (s : State) (m : UnwrittenRead) : (s.recordUnwritten m).hostData = s.hostData := rfl
@[simp] theorem State.recordUnwritten_unwrittenRead (s : State) (m : UnwrittenRead) : (s.recordUnwritten m).unwrittenRead = s.unwrittenRead.or (some m) := rfl
@[simp] theorem State.recordUnwritten_agenda (s : State) (m : UnwrittenRead) : (s.recordUnwritten m).agenda = s.agenda := rfl

@[simp] theorem State.issue_refHz (s : State) (q : TxReq) : (s.issue q).refHz = s.refHz := rfl
@[simp] theorem State.issue_vcoHz (s : State) (q : TxReq) : (s.issue q).vcoHz = s.vcoHz := rfl
@[simp] theorem State.issue_out1Hz (s : State) (q : TxReq) : (s.issue q).out1Hz = s.out1Hz := rfl
@[simp] theorem State.issue_out2Hz (s : State) (q : TxReq) : (s.issue q).out2Hz = s.out2Hz := rfl
@[simp] theorem State.issue_out3Hz (s : State) (q : TxReq) : (s.issue q).out3Hz = s.out3Hz := rfl
@[simp] theorem State.issue_out4Hz (s : State) (q : TxReq) : (s.issue q).out4Hz = s.out4Hz := rfl
@[simp] theorem State.issue_fb (s : State) (q : TxReq) : (s.issue q).fb = s.fb := rfl
@[simp] theorem State.issue_od1 (s : State) (q : TxReq) : (s.issue q).od1 = s.od1 := rfl
@[simp] theorem State.issue_od2 (s : State) (q : TxReq) : (s.issue q).od2 = s.od2 := rfl
@[simp] theorem State.issue_od3 (s : State) (q : TxReq) : (s.issue q).od3 = s.od3 := rfl
@[simp] theorem State.issue_od4 (s : State) (q : TxReq) : (s.issue q).od4 = s.od4 := rfl
@[simp] theorem State.issue_sd (s : State) (q : TxReq) : (s.issue q).sd = s.sd := rfl
@[simp] theorem State.issue_calV (s : State) (q : TxReq) : (s.issue q).calV = s.calV := rfl
@[simp] theorem State.issue_calS (s : State) (q : TxReq) : (s.issue q).calS = s.calS := rfl
@[simp] theorem State.issue_vcoBand (s : State) (q : TxReq) : (s.issue q).vcoBand = s.vcoBand := rfl
@[simp] theorem State.issue_status (s : State) (q : TxReq) : (s.issue q).status = s.status := rfl
@[simp] theorem State.issue_ctl (s : State) (q : TxReq) : (s.issue q).ctl = s.ctl := rfl
@[simp] theorem State.issue_image (s : State) (q : TxReq) : (s.issue q).image = s.image := rfl
@[simp] theorem State.issue_imageWritten (s : State) (q : TxReq) : (s.issue q).imageWritten = s.imageWritten := rfl
@[simp] theorem State.issue_txp (s : State) (q : TxReq) : (s.issue q).txp = true := rfl
@[simp] theorem State.issue_txreq (s : State) (q : TxReq) : (s.issue q).txreq = q := rfl
@[simp] theorem State.issue_resp (s : State) (q : TxReq) : (s.issue q).resp = .empty := rfl
@[simp] theorem State.issue_texp (s : State) (q : TxReq) : (s.issue q).texp = s.texp := rfl
@[simp] theorem State.issue_hostData (s : State) (q : TxReq) : (s.issue q).hostData = s.hostData := rfl
@[simp] theorem State.issue_unwrittenRead (s : State) (q : TxReq) : (s.issue q).unwrittenRead = s.unwrittenRead := rfl
@[simp] theorem State.issue_agenda (s : State) (q : TxReq) : (s.issue q).agenda = s.agenda := rfl

@[simp] theorem State.consume_refHz (s : State) : s.consume.refHz = s.refHz := rfl
@[simp] theorem State.consume_vcoHz (s : State) : s.consume.vcoHz = s.vcoHz := rfl
@[simp] theorem State.consume_out1Hz (s : State) : s.consume.out1Hz = s.out1Hz := rfl
@[simp] theorem State.consume_out2Hz (s : State) : s.consume.out2Hz = s.out2Hz := rfl
@[simp] theorem State.consume_out3Hz (s : State) : s.consume.out3Hz = s.out3Hz := rfl
@[simp] theorem State.consume_out4Hz (s : State) : s.consume.out4Hz = s.out4Hz := rfl
@[simp] theorem State.consume_fb (s : State) : s.consume.fb = s.fb := rfl
@[simp] theorem State.consume_od1 (s : State) : s.consume.od1 = s.od1 := rfl
@[simp] theorem State.consume_od2 (s : State) : s.consume.od2 = s.od2 := rfl
@[simp] theorem State.consume_od3 (s : State) : s.consume.od3 = s.od3 := rfl
@[simp] theorem State.consume_od4 (s : State) : s.consume.od4 = s.od4 := rfl
@[simp] theorem State.consume_sd (s : State) : s.consume.sd = s.sd := rfl
@[simp] theorem State.consume_calV (s : State) : s.consume.calV = s.calV := rfl
@[simp] theorem State.consume_calS (s : State) : s.consume.calS = s.calS := rfl
@[simp] theorem State.consume_vcoBand (s : State) : s.consume.vcoBand = s.vcoBand := rfl
@[simp] theorem State.consume_status (s : State) : s.consume.status = s.status := rfl
@[simp] theorem State.consume_ctl (s : State) : s.consume.ctl = s.ctl := rfl
@[simp] theorem State.consume_image (s : State) : s.consume.image = s.image := rfl
@[simp] theorem State.consume_imageWritten (s : State) : s.consume.imageWritten = s.imageWritten := rfl
@[simp] theorem State.consume_txp (s : State) : s.consume.txp = false := rfl
@[simp] theorem State.consume_txreq (s : State) : s.consume.txreq = s.txreq := rfl
@[simp] theorem State.consume_resp (s : State) : s.consume.resp = .empty := rfl
@[simp] theorem State.consume_texp (s : State) : s.consume.texp = s.texp := rfl
@[simp] theorem State.consume_hostData (s : State) : s.consume.hostData = s.hostData := rfl
@[simp] theorem State.consume_unwrittenRead (s : State) : s.consume.unwrittenRead = s.unwrittenRead := rfl
@[simp] theorem State.consume_agenda (s : State) : s.consume.agenda = s.agenda := rfl

@[simp] theorem State.enterWait_refHz (s : State) (st : BitVec 4) : (s.enterWait st).refHz = s.refHz := rfl
@[simp] theorem State.enterWait_vcoHz (s : State) (st : BitVec 4) : (s.enterWait st).vcoHz = s.vcoHz := rfl
@[simp] theorem State.enterWait_out1Hz (s : State) (st : BitVec 4) : (s.enterWait st).out1Hz = s.out1Hz := rfl
@[simp] theorem State.enterWait_out2Hz (s : State) (st : BitVec 4) : (s.enterWait st).out2Hz = s.out2Hz := rfl
@[simp] theorem State.enterWait_out3Hz (s : State) (st : BitVec 4) : (s.enterWait st).out3Hz = s.out3Hz := rfl
@[simp] theorem State.enterWait_out4Hz (s : State) (st : BitVec 4) : (s.enterWait st).out4Hz = s.out4Hz := rfl
@[simp] theorem State.enterWait_fb (s : State) (st : BitVec 4) : (s.enterWait st).fb = s.fb := rfl
@[simp] theorem State.enterWait_od1 (s : State) (st : BitVec 4) : (s.enterWait st).od1 = s.od1 := rfl
@[simp] theorem State.enterWait_od2 (s : State) (st : BitVec 4) : (s.enterWait st).od2 = s.od2 := rfl
@[simp] theorem State.enterWait_od3 (s : State) (st : BitVec 4) : (s.enterWait st).od3 = s.od3 := rfl
@[simp] theorem State.enterWait_od4 (s : State) (st : BitVec 4) : (s.enterWait st).od4 = s.od4 := rfl
@[simp] theorem State.enterWait_sd (s : State) (st : BitVec 4) : (s.enterWait st).sd = s.sd := rfl
@[simp] theorem State.enterWait_calV (s : State) (st : BitVec 4) : (s.enterWait st).calV = s.calV := rfl
@[simp] theorem State.enterWait_calS (s : State) (st : BitVec 4) : (s.enterWait st).calS = s.calS := rfl
@[simp] theorem State.enterWait_vcoBand (s : State) (st : BitVec 4) : (s.enterWait st).vcoBand = s.vcoBand := rfl
@[simp] theorem State.enterWait_status (s : State) (st : BitVec 4) : (s.enterWait st).status = s.status := rfl
@[simp] theorem State.enterWait_ctl (s : State) (st : BitVec 4) : (s.enterWait st).ctl = st := rfl
@[simp] theorem State.enterWait_image (s : State) (st : BitVec 4) : (s.enterWait st).image = s.image := rfl
@[simp] theorem State.enterWait_imageWritten (s : State) (st : BitVec 4) : (s.enterWait st).imageWritten = s.imageWritten := rfl
@[simp] theorem State.enterWait_txp (s : State) (st : BitVec 4) : (s.enterWait st).txp = s.txp := rfl
@[simp] theorem State.enterWait_txreq (s : State) (st : BitVec 4) : (s.enterWait st).txreq = s.txreq := rfl
@[simp] theorem State.enterWait_resp (s : State) (st : BitVec 4) : (s.enterWait st).resp = s.resp := rfl
@[simp] theorem State.enterWait_texp (s : State) (st : BitVec 4) : (s.enterWait st).texp = false := rfl
@[simp] theorem State.enterWait_hostData (s : State) (st : BitVec 4) : (s.enterWait st).hostData = s.hostData := rfl
@[simp] theorem State.enterWait_unwrittenRead (s : State) (st : BitVec 4) : (s.enterWait st).unwrittenRead = s.unwrittenRead := rfl
@[simp] theorem State.enterWait_agenda (s : State) (st : BitVec 4) : (s.enterWait st).agenda = s.agenda := rfl

@[simp] theorem State.raiseTransportError_refHz (s : State) (code : BitVec 3) (indet : Bool) : (s.raiseTransportError code indet).refHz = s.refHz := rfl
@[simp] theorem State.raiseTransportError_vcoHz (s : State) (code : BitVec 3) (indet : Bool) : (s.raiseTransportError code indet).vcoHz = s.vcoHz := rfl
@[simp] theorem State.raiseTransportError_out1Hz (s : State) (code : BitVec 3) (indet : Bool) : (s.raiseTransportError code indet).out1Hz = s.out1Hz := rfl
@[simp] theorem State.raiseTransportError_out2Hz (s : State) (code : BitVec 3) (indet : Bool) : (s.raiseTransportError code indet).out2Hz = s.out2Hz := rfl
@[simp] theorem State.raiseTransportError_out3Hz (s : State) (code : BitVec 3) (indet : Bool) : (s.raiseTransportError code indet).out3Hz = s.out3Hz := rfl
@[simp] theorem State.raiseTransportError_out4Hz (s : State) (code : BitVec 3) (indet : Bool) : (s.raiseTransportError code indet).out4Hz = s.out4Hz := rfl
@[simp] theorem State.raiseTransportError_fb (s : State) (code : BitVec 3) (indet : Bool) : (s.raiseTransportError code indet).fb = s.fb := rfl
@[simp] theorem State.raiseTransportError_od1 (s : State) (code : BitVec 3) (indet : Bool) : (s.raiseTransportError code indet).od1 = s.od1 := rfl
@[simp] theorem State.raiseTransportError_od2 (s : State) (code : BitVec 3) (indet : Bool) : (s.raiseTransportError code indet).od2 = s.od2 := rfl
@[simp] theorem State.raiseTransportError_od3 (s : State) (code : BitVec 3) (indet : Bool) : (s.raiseTransportError code indet).od3 = s.od3 := rfl
@[simp] theorem State.raiseTransportError_od4 (s : State) (code : BitVec 3) (indet : Bool) : (s.raiseTransportError code indet).od4 = s.od4 := rfl
@[simp] theorem State.raiseTransportError_sd (s : State) (code : BitVec 3) (indet : Bool) : (s.raiseTransportError code indet).sd = s.sd := rfl
@[simp] theorem State.raiseTransportError_calV (s : State) (code : BitVec 3) (indet : Bool) : (s.raiseTransportError code indet).calV = s.calV := rfl
@[simp] theorem State.raiseTransportError_calS (s : State) (code : BitVec 3) (indet : Bool) : (s.raiseTransportError code indet).calS = s.calS := rfl
@[simp] theorem State.raiseTransportError_vcoBand (s : State) (code : BitVec 3) (indet : Bool) : (s.raiseTransportError code indet).vcoBand = s.vcoBand := rfl
@[simp] theorem State.raiseTransportError_status (s : State) (code : BitVec 3) (indet : Bool) : (s.raiseTransportError code indet).status = s.status.transportError code indet := rfl
@[simp] theorem State.raiseTransportError_ctl (s : State) (code : BitVec 3) (indet : Bool) : (s.raiseTransportError code indet).ctl = Ctl.idle := rfl
@[simp] theorem State.raiseTransportError_image (s : State) (code : BitVec 3) (indet : Bool) : (s.raiseTransportError code indet).image = s.image := rfl
@[simp] theorem State.raiseTransportError_imageWritten (s : State) (code : BitVec 3) (indet : Bool) : (s.raiseTransportError code indet).imageWritten = s.imageWritten := rfl
@[simp] theorem State.raiseTransportError_txp (s : State) (code : BitVec 3) (indet : Bool) : (s.raiseTransportError code indet).txp = false := rfl
@[simp] theorem State.raiseTransportError_txreq (s : State) (code : BitVec 3) (indet : Bool) : (s.raiseTransportError code indet).txreq = s.txreq := rfl
@[simp] theorem State.raiseTransportError_resp (s : State) (code : BitVec 3) (indet : Bool) : (s.raiseTransportError code indet).resp = .empty := rfl
@[simp] theorem State.raiseTransportError_texp (s : State) (code : BitVec 3) (indet : Bool) : (s.raiseTransportError code indet).texp = s.texp := rfl
@[simp] theorem State.raiseTransportError_hostData (s : State) (code : BitVec 3) (indet : Bool) : (s.raiseTransportError code indet).hostData = s.hostData := rfl
@[simp] theorem State.raiseTransportError_unwrittenRead (s : State) (code : BitVec 3) (indet : Bool) : (s.raiseTransportError code indet).unwrittenRead = s.unwrittenRead := rfl
@[simp] theorem State.raiseTransportError_agenda (s : State) (code : BitVec 3) (indet : Bool) : (s.raiseTransportError code indet).agenda = s.agenda := rfl

@[simp] theorem State.raiseDomainError_refHz (s : State) (k : BitVec 3) : (s.raiseDomainError k).refHz = s.refHz := rfl
@[simp] theorem State.raiseDomainError_vcoHz (s : State) (k : BitVec 3) : (s.raiseDomainError k).vcoHz = s.vcoHz := rfl
@[simp] theorem State.raiseDomainError_out1Hz (s : State) (k : BitVec 3) : (s.raiseDomainError k).out1Hz = s.out1Hz := rfl
@[simp] theorem State.raiseDomainError_out2Hz (s : State) (k : BitVec 3) : (s.raiseDomainError k).out2Hz = s.out2Hz := rfl
@[simp] theorem State.raiseDomainError_out3Hz (s : State) (k : BitVec 3) : (s.raiseDomainError k).out3Hz = s.out3Hz := rfl
@[simp] theorem State.raiseDomainError_out4Hz (s : State) (k : BitVec 3) : (s.raiseDomainError k).out4Hz = s.out4Hz := rfl
@[simp] theorem State.raiseDomainError_fb (s : State) (k : BitVec 3) : (s.raiseDomainError k).fb = s.fb := rfl
@[simp] theorem State.raiseDomainError_od1 (s : State) (k : BitVec 3) : (s.raiseDomainError k).od1 = s.od1 := rfl
@[simp] theorem State.raiseDomainError_od2 (s : State) (k : BitVec 3) : (s.raiseDomainError k).od2 = s.od2 := rfl
@[simp] theorem State.raiseDomainError_od3 (s : State) (k : BitVec 3) : (s.raiseDomainError k).od3 = s.od3 := rfl
@[simp] theorem State.raiseDomainError_od4 (s : State) (k : BitVec 3) : (s.raiseDomainError k).od4 = s.od4 := rfl
@[simp] theorem State.raiseDomainError_sd (s : State) (k : BitVec 3) : (s.raiseDomainError k).sd = s.sd := rfl
@[simp] theorem State.raiseDomainError_calV (s : State) (k : BitVec 3) : (s.raiseDomainError k).calV = s.calV := rfl
@[simp] theorem State.raiseDomainError_calS (s : State) (k : BitVec 3) : (s.raiseDomainError k).calS = s.calS := rfl
@[simp] theorem State.raiseDomainError_vcoBand (s : State) (k : BitVec 3) : (s.raiseDomainError k).vcoBand = s.vcoBand := rfl
@[simp] theorem State.raiseDomainError_status (s : State) (k : BitVec 3) : (s.raiseDomainError k).status = s.status.domainError k := rfl
@[simp] theorem State.raiseDomainError_ctl (s : State) (k : BitVec 3) : (s.raiseDomainError k).ctl = Ctl.idle := rfl
@[simp] theorem State.raiseDomainError_image (s : State) (k : BitVec 3) : (s.raiseDomainError k).image = s.image := rfl
@[simp] theorem State.raiseDomainError_imageWritten (s : State) (k : BitVec 3) : (s.raiseDomainError k).imageWritten = s.imageWritten := rfl
@[simp] theorem State.raiseDomainError_txp (s : State) (k : BitVec 3) : (s.raiseDomainError k).txp = false := rfl
@[simp] theorem State.raiseDomainError_txreq (s : State) (k : BitVec 3) : (s.raiseDomainError k).txreq = s.txreq := rfl
@[simp] theorem State.raiseDomainError_resp (s : State) (k : BitVec 3) : (s.raiseDomainError k).resp = .empty := rfl
@[simp] theorem State.raiseDomainError_texp (s : State) (k : BitVec 3) : (s.raiseDomainError k).texp = s.texp := rfl
@[simp] theorem State.raiseDomainError_hostData (s : State) (k : BitVec 3) : (s.raiseDomainError k).hostData = s.hostData := rfl
@[simp] theorem State.raiseDomainError_unwrittenRead (s : State) (k : BitVec 3) : (s.raiseDomainError k).unwrittenRead = s.unwrittenRead := rfl
@[simp] theorem State.raiseDomainError_agenda (s : State) (k : BitVec 3) : (s.raiseDomainError k).agenda = s.agenda := rfl

@[simp] theorem State.acceptCommand_refHz (s : State) (calibrate : Bool) : (s.acceptCommand calibrate).refHz = s.refHz := rfl
@[simp] theorem State.acceptCommand_vcoHz (s : State) (calibrate : Bool) : (s.acceptCommand calibrate).vcoHz = s.vcoHz := rfl
@[simp] theorem State.acceptCommand_out1Hz (s : State) (calibrate : Bool) : (s.acceptCommand calibrate).out1Hz = s.out1Hz := rfl
@[simp] theorem State.acceptCommand_out2Hz (s : State) (calibrate : Bool) : (s.acceptCommand calibrate).out2Hz = s.out2Hz := rfl
@[simp] theorem State.acceptCommand_out3Hz (s : State) (calibrate : Bool) : (s.acceptCommand calibrate).out3Hz = s.out3Hz := rfl
@[simp] theorem State.acceptCommand_out4Hz (s : State) (calibrate : Bool) : (s.acceptCommand calibrate).out4Hz = s.out4Hz := rfl
@[simp] theorem State.acceptCommand_fb (s : State) (calibrate : Bool) : (s.acceptCommand calibrate).fb = s.fb := rfl
@[simp] theorem State.acceptCommand_od1 (s : State) (calibrate : Bool) : (s.acceptCommand calibrate).od1 = s.od1 := rfl
@[simp] theorem State.acceptCommand_od2 (s : State) (calibrate : Bool) : (s.acceptCommand calibrate).od2 = s.od2 := rfl
@[simp] theorem State.acceptCommand_od3 (s : State) (calibrate : Bool) : (s.acceptCommand calibrate).od3 = s.od3 := rfl
@[simp] theorem State.acceptCommand_od4 (s : State) (calibrate : Bool) : (s.acceptCommand calibrate).od4 = s.od4 := rfl
@[simp] theorem State.acceptCommand_sd (s : State) (calibrate : Bool) : (s.acceptCommand calibrate).sd = s.sd := rfl
@[simp] theorem State.acceptCommand_calV (s : State) (calibrate : Bool) : (s.acceptCommand calibrate).calV = s.calV := rfl
@[simp] theorem State.acceptCommand_calS (s : State) (calibrate : Bool) : (s.acceptCommand calibrate).calS = s.calS := rfl
@[simp] theorem State.acceptCommand_vcoBand (s : State) (calibrate : Bool) : (s.acceptCommand calibrate).vcoBand = s.vcoBand := rfl
@[simp] theorem State.acceptCommand_status (s : State) (calibrate : Bool) : (s.acceptCommand calibrate).status = s.status.accept calibrate := rfl
@[simp] theorem State.acceptCommand_ctl (s : State) (calibrate : Bool) : (s.acceptCommand calibrate).ctl = s.ctl := rfl
@[simp] theorem State.acceptCommand_image (s : State) (calibrate : Bool) : (s.acceptCommand calibrate).image = s.image := rfl
@[simp] theorem State.acceptCommand_imageWritten (s : State) (calibrate : Bool) : (s.acceptCommand calibrate).imageWritten = s.imageWritten := rfl
@[simp] theorem State.acceptCommand_txp (s : State) (calibrate : Bool) : (s.acceptCommand calibrate).txp = s.txp := rfl
@[simp] theorem State.acceptCommand_txreq (s : State) (calibrate : Bool) : (s.acceptCommand calibrate).txreq = s.txreq := rfl
@[simp] theorem State.acceptCommand_resp (s : State) (calibrate : Bool) : (s.acceptCommand calibrate).resp = s.resp := rfl
@[simp] theorem State.acceptCommand_texp (s : State) (calibrate : Bool) : (s.acceptCommand calibrate).texp = s.texp := rfl
@[simp] theorem State.acceptCommand_hostData (s : State) (calibrate : Bool) : (s.acceptCommand calibrate).hostData = s.hostData := rfl
@[simp] theorem State.acceptCommand_unwrittenRead (s : State) (calibrate : Bool) : (s.acceptCommand calibrate).unwrittenRead = s.unwrittenRead := rfl
@[simp] theorem State.acceptCommand_agenda (s : State) (calibrate : Bool) : (s.acceptCommand calibrate).agenda = s.agenda := rfl

@[simp] theorem State.storePlan_refHz (s : State) (p : Plan) : (s.storePlan p).refHz = s.refHz := rfl
@[simp] theorem State.storePlan_vcoHz (s : State) (p : Plan) : (s.storePlan p).vcoHz = s.vcoHz := rfl
@[simp] theorem State.storePlan_out1Hz (s : State) (p : Plan) : (s.storePlan p).out1Hz = s.out1Hz := rfl
@[simp] theorem State.storePlan_out2Hz (s : State) (p : Plan) : (s.storePlan p).out2Hz = s.out2Hz := rfl
@[simp] theorem State.storePlan_out3Hz (s : State) (p : Plan) : (s.storePlan p).out3Hz = s.out3Hz := rfl
@[simp] theorem State.storePlan_out4Hz (s : State) (p : Plan) : (s.storePlan p).out4Hz = s.out4Hz := rfl
@[simp] theorem State.storePlan_fb (s : State) (p : Plan) : (s.storePlan p).fb = .of p.fb := rfl
@[simp] theorem State.storePlan_od1 (s : State) (p : Plan) : (s.storePlan p).od1 = .of p.od1 := rfl
@[simp] theorem State.storePlan_od2 (s : State) (p : Plan) : (s.storePlan p).od2 = .of p.od2 := rfl
@[simp] theorem State.storePlan_od3 (s : State) (p : Plan) : (s.storePlan p).od3 = .of p.od3 := rfl
@[simp] theorem State.storePlan_od4 (s : State) (p : Plan) : (s.storePlan p).od4 = .of p.od4 := rfl
@[simp] theorem State.storePlan_sd (s : State) (p : Plan) : (s.storePlan p).sd = .of p.sd := rfl
@[simp] theorem State.storePlan_calV (s : State) (p : Plan) : (s.storePlan p).calV = s.calV := rfl
@[simp] theorem State.storePlan_calS (s : State) (p : Plan) : (s.storePlan p).calS = s.calS := rfl
@[simp] theorem State.storePlan_vcoBand (s : State) (p : Plan) : (s.storePlan p).vcoBand = s.vcoBand := rfl
@[simp] theorem State.storePlan_status (s : State) (p : Plan) : (s.storePlan p).status = s.status := rfl
@[simp] theorem State.storePlan_ctl (s : State) (p : Plan) : (s.storePlan p).ctl = s.ctl := rfl
@[simp] theorem State.storePlan_image (s : State) (p : Plan) :
    (s.storePlan p).image = Memory.writeBytes 0 (packBytes chip p) s.image := by simp only [State.storePlan]
@[simp] theorem State.storePlan_imageWritten (s : State) (p : Plan) : (s.storePlan p).imageWritten = true := rfl
@[simp] theorem State.storePlan_txp (s : State) (p : Plan) : (s.storePlan p).txp = s.txp := rfl
@[simp] theorem State.storePlan_txreq (s : State) (p : Plan) : (s.storePlan p).txreq = s.txreq := rfl
@[simp] theorem State.storePlan_resp (s : State) (p : Plan) : (s.storePlan p).resp = s.resp := rfl
@[simp] theorem State.storePlan_texp (s : State) (p : Plan) : (s.storePlan p).texp = s.texp := rfl
@[simp] theorem State.storePlan_hostData (s : State) (p : Plan) : (s.storePlan p).hostData = s.hostData := rfl
@[simp] theorem State.storePlan_unwrittenRead (s : State) (p : Plan) : (s.storePlan p).unwrittenRead = s.unwrittenRead := rfl
@[simp] theorem State.storePlan_agenda (s : State) (p : Plan) : (s.storePlan p).agenda = s.agenda := rfl

@[simp] theorem State.enterCfgWrite_refHz (s : State) : s.enterCfgWrite.refHz = s.refHz := rfl
@[simp] theorem State.enterCfgWrite_vcoHz (s : State) : s.enterCfgWrite.vcoHz = s.vcoHz := rfl
@[simp] theorem State.enterCfgWrite_out1Hz (s : State) : s.enterCfgWrite.out1Hz = s.out1Hz := rfl
@[simp] theorem State.enterCfgWrite_out2Hz (s : State) : s.enterCfgWrite.out2Hz = s.out2Hz := rfl
@[simp] theorem State.enterCfgWrite_out3Hz (s : State) : s.enterCfgWrite.out3Hz = s.out3Hz := rfl
@[simp] theorem State.enterCfgWrite_out4Hz (s : State) : s.enterCfgWrite.out4Hz = s.out4Hz := rfl
@[simp] theorem State.enterCfgWrite_fb (s : State) : s.enterCfgWrite.fb = s.fb := rfl
@[simp] theorem State.enterCfgWrite_od1 (s : State) : s.enterCfgWrite.od1 = s.od1 := rfl
@[simp] theorem State.enterCfgWrite_od2 (s : State) : s.enterCfgWrite.od2 = s.od2 := rfl
@[simp] theorem State.enterCfgWrite_od3 (s : State) : s.enterCfgWrite.od3 = s.od3 := rfl
@[simp] theorem State.enterCfgWrite_od4 (s : State) : s.enterCfgWrite.od4 = s.od4 := rfl
@[simp] theorem State.enterCfgWrite_sd (s : State) : s.enterCfgWrite.sd = s.sd := rfl
@[simp] theorem State.enterCfgWrite_calV (s : State) : s.enterCfgWrite.calV = s.calV := rfl
@[simp] theorem State.enterCfgWrite_calS (s : State) : s.enterCfgWrite.calS = s.calS := rfl
@[simp] theorem State.enterCfgWrite_vcoBand (s : State) : s.enterCfgWrite.vcoBand = s.vcoBand := rfl
@[simp] theorem State.enterCfgWrite_status (s : State) : s.enterCfgWrite.status = s.status.planned := rfl
@[simp] theorem State.enterCfgWrite_ctl (s : State) : s.enterCfgWrite.ctl = Ctl.cfgWrite := rfl
@[simp] theorem State.enterCfgWrite_image (s : State) : s.enterCfgWrite.image = s.image := rfl
@[simp] theorem State.enterCfgWrite_imageWritten (s : State) : s.enterCfgWrite.imageWritten = s.imageWritten := rfl
@[simp] theorem State.enterCfgWrite_txp (s : State) : s.enterCfgWrite.txp = false := rfl
@[simp] theorem State.enterCfgWrite_txreq (s : State) : s.enterCfgWrite.txreq = s.txreq := rfl
@[simp] theorem State.enterCfgWrite_resp (s : State) : s.enterCfgWrite.resp = s.resp := rfl
@[simp] theorem State.enterCfgWrite_texp (s : State) : s.enterCfgWrite.texp = s.texp := rfl
@[simp] theorem State.enterCfgWrite_hostData (s : State) : s.enterCfgWrite.hostData = s.hostData := rfl
@[simp] theorem State.enterCfgWrite_unwrittenRead (s : State) : s.enterCfgWrite.unwrittenRead = s.unwrittenRead := rfl
@[simp] theorem State.enterCfgWrite_agenda (s : State) : s.enterCfgWrite.agenda = s.agenda := rfl

@[simp] theorem State.finishConfigure_refHz (s : State) : s.finishConfigure.refHz = s.refHz := rfl
@[simp] theorem State.finishConfigure_vcoHz (s : State) : s.finishConfigure.vcoHz = s.vcoHz := rfl
@[simp] theorem State.finishConfigure_out1Hz (s : State) : s.finishConfigure.out1Hz = s.out1Hz := rfl
@[simp] theorem State.finishConfigure_out2Hz (s : State) : s.finishConfigure.out2Hz = s.out2Hz := rfl
@[simp] theorem State.finishConfigure_out3Hz (s : State) : s.finishConfigure.out3Hz = s.out3Hz := rfl
@[simp] theorem State.finishConfigure_out4Hz (s : State) : s.finishConfigure.out4Hz = s.out4Hz := rfl
@[simp] theorem State.finishConfigure_fb (s : State) : s.finishConfigure.fb = s.fb := rfl
@[simp] theorem State.finishConfigure_od1 (s : State) : s.finishConfigure.od1 = s.od1 := rfl
@[simp] theorem State.finishConfigure_od2 (s : State) : s.finishConfigure.od2 = s.od2 := rfl
@[simp] theorem State.finishConfigure_od3 (s : State) : s.finishConfigure.od3 = s.od3 := rfl
@[simp] theorem State.finishConfigure_od4 (s : State) : s.finishConfigure.od4 = s.od4 := rfl
@[simp] theorem State.finishConfigure_sd (s : State) : s.finishConfigure.sd = s.sd := rfl
@[simp] theorem State.finishConfigure_calV (s : State) : s.finishConfigure.calV = s.calV := rfl
@[simp] theorem State.finishConfigure_calS (s : State) : s.finishConfigure.calS = s.calS := rfl
@[simp] theorem State.finishConfigure_vcoBand (s : State) : s.finishConfigure.vcoBand = s.vcoBand := rfl
@[simp] theorem State.finishConfigure_status (s : State) : s.finishConfigure.status = s.status.succeed := rfl
@[simp] theorem State.finishConfigure_ctl (s : State) : s.finishConfigure.ctl = Ctl.idle := rfl
@[simp] theorem State.finishConfigure_image (s : State) : s.finishConfigure.image = s.image := rfl
@[simp] theorem State.finishConfigure_imageWritten (s : State) : s.finishConfigure.imageWritten = s.imageWritten := rfl
@[simp] theorem State.finishConfigure_txp (s : State) : s.finishConfigure.txp = s.txp := rfl
@[simp] theorem State.finishConfigure_txreq (s : State) : s.finishConfigure.txreq = s.txreq := rfl
@[simp] theorem State.finishConfigure_resp (s : State) : s.finishConfigure.resp = s.resp := rfl
@[simp] theorem State.finishConfigure_texp (s : State) : s.finishConfigure.texp = s.texp := rfl
@[simp] theorem State.finishConfigure_hostData (s : State) : s.finishConfigure.hostData = s.hostData := rfl
@[simp] theorem State.finishConfigure_unwrittenRead (s : State) : s.finishConfigure.unwrittenRead = s.unwrittenRead := rfl
@[simp] theorem State.finishConfigure_agenda (s : State) : s.finishConfigure.agenda = s.agenda := rfl

@[simp] theorem State.holdControl_refHz (s : State) (v : Byte) : (s.holdControl v).refHz = s.refHz := rfl
@[simp] theorem State.holdControl_vcoHz (s : State) (v : Byte) : (s.holdControl v).vcoHz = s.vcoHz := rfl
@[simp] theorem State.holdControl_out1Hz (s : State) (v : Byte) : (s.holdControl v).out1Hz = s.out1Hz := rfl
@[simp] theorem State.holdControl_out2Hz (s : State) (v : Byte) : (s.holdControl v).out2Hz = s.out2Hz := rfl
@[simp] theorem State.holdControl_out3Hz (s : State) (v : Byte) : (s.holdControl v).out3Hz = s.out3Hz := rfl
@[simp] theorem State.holdControl_out4Hz (s : State) (v : Byte) : (s.holdControl v).out4Hz = s.out4Hz := rfl
@[simp] theorem State.holdControl_fb (s : State) (v : Byte) : (s.holdControl v).fb = s.fb := rfl
@[simp] theorem State.holdControl_od1 (s : State) (v : Byte) : (s.holdControl v).od1 = s.od1 := rfl
@[simp] theorem State.holdControl_od2 (s : State) (v : Byte) : (s.holdControl v).od2 = s.od2 := rfl
@[simp] theorem State.holdControl_od3 (s : State) (v : Byte) : (s.holdControl v).od3 = s.od3 := rfl
@[simp] theorem State.holdControl_od4 (s : State) (v : Byte) : (s.holdControl v).od4 = s.od4 := rfl
@[simp] theorem State.holdControl_sd (s : State) (v : Byte) : (s.holdControl v).sd = s.sd := rfl
@[simp] theorem State.holdControl_calV (s : State) (v : Byte) : (s.holdControl v).calV = .of v := rfl
@[simp] theorem State.holdControl_calS (s : State) (v : Byte) : (s.holdControl v).calS = s.calS := rfl
@[simp] theorem State.holdControl_vcoBand (s : State) (v : Byte) : (s.holdControl v).vcoBand = s.vcoBand := rfl
@[simp] theorem State.holdControl_status (s : State) (v : Byte) : (s.holdControl v).status = s.status := rfl
@[simp] theorem State.holdControl_ctl (s : State) (v : Byte) : (s.holdControl v).ctl = Ctl.calClr1 := rfl
@[simp] theorem State.holdControl_image (s : State) (v : Byte) : (s.holdControl v).image = s.image := rfl
@[simp] theorem State.holdControl_imageWritten (s : State) (v : Byte) : (s.holdControl v).imageWritten = s.imageWritten := rfl
@[simp] theorem State.holdControl_txp (s : State) (v : Byte) : (s.holdControl v).txp = s.txp := rfl
@[simp] theorem State.holdControl_txreq (s : State) (v : Byte) : (s.holdControl v).txreq = s.txreq := rfl
@[simp] theorem State.holdControl_resp (s : State) (v : Byte) : (s.holdControl v).resp = s.resp := rfl
@[simp] theorem State.holdControl_texp (s : State) (v : Byte) : (s.holdControl v).texp = s.texp := rfl
@[simp] theorem State.holdControl_hostData (s : State) (v : Byte) : (s.holdControl v).hostData = s.hostData := rfl
@[simp] theorem State.holdControl_unwrittenRead (s : State) (v : Byte) : (s.holdControl v).unwrittenRead = s.unwrittenRead := rfl
@[simp] theorem State.holdControl_agenda (s : State) (v : Byte) : (s.holdControl v).agenda = s.agenda := rfl

@[simp] theorem State.finishCalibrate_refHz (s : State) (v : Byte) : (s.finishCalibrate v).refHz = s.refHz := rfl
@[simp] theorem State.finishCalibrate_vcoHz (s : State) (v : Byte) : (s.finishCalibrate v).vcoHz = s.vcoHz := rfl
@[simp] theorem State.finishCalibrate_out1Hz (s : State) (v : Byte) : (s.finishCalibrate v).out1Hz = s.out1Hz := rfl
@[simp] theorem State.finishCalibrate_out2Hz (s : State) (v : Byte) : (s.finishCalibrate v).out2Hz = s.out2Hz := rfl
@[simp] theorem State.finishCalibrate_out3Hz (s : State) (v : Byte) : (s.finishCalibrate v).out3Hz = s.out3Hz := rfl
@[simp] theorem State.finishCalibrate_out4Hz (s : State) (v : Byte) : (s.finishCalibrate v).out4Hz = s.out4Hz := rfl
@[simp] theorem State.finishCalibrate_fb (s : State) (v : Byte) : (s.finishCalibrate v).fb = s.fb := rfl
@[simp] theorem State.finishCalibrate_od1 (s : State) (v : Byte) : (s.finishCalibrate v).od1 = s.od1 := rfl
@[simp] theorem State.finishCalibrate_od2 (s : State) (v : Byte) : (s.finishCalibrate v).od2 = s.od2 := rfl
@[simp] theorem State.finishCalibrate_od3 (s : State) (v : Byte) : (s.finishCalibrate v).od3 = s.od3 := rfl
@[simp] theorem State.finishCalibrate_od4 (s : State) (v : Byte) : (s.finishCalibrate v).od4 = s.od4 := rfl
@[simp] theorem State.finishCalibrate_sd (s : State) (v : Byte) : (s.finishCalibrate v).sd = s.sd := rfl
@[simp] theorem State.finishCalibrate_calV (s : State) (v : Byte) : (s.finishCalibrate v).calV = s.calV := rfl
@[simp] theorem State.finishCalibrate_calS (s : State) (v : Byte) : (s.finishCalibrate v).calS = .of v := rfl
@[simp] theorem State.finishCalibrate_vcoBand (s : State) (v : Byte) : (s.finishCalibrate v).vcoBand = .of (v.extractLsb' 3 5) := rfl
@[simp] theorem State.finishCalibrate_status (s : State) (v : Byte) : (s.finishCalibrate v).status = s.status.calibrated := rfl
@[simp] theorem State.finishCalibrate_ctl (s : State) (v : Byte) : (s.finishCalibrate v).ctl = Ctl.idle := rfl
@[simp] theorem State.finishCalibrate_image (s : State) (v : Byte) : (s.finishCalibrate v).image = s.image := rfl
@[simp] theorem State.finishCalibrate_imageWritten (s : State) (v : Byte) : (s.finishCalibrate v).imageWritten = s.imageWritten := rfl
@[simp] theorem State.finishCalibrate_txp (s : State) (v : Byte) : (s.finishCalibrate v).txp = s.txp := rfl
@[simp] theorem State.finishCalibrate_txreq (s : State) (v : Byte) : (s.finishCalibrate v).txreq = s.txreq := rfl
@[simp] theorem State.finishCalibrate_resp (s : State) (v : Byte) : (s.finishCalibrate v).resp = s.resp := rfl
@[simp] theorem State.finishCalibrate_texp (s : State) (v : Byte) : (s.finishCalibrate v).texp = s.texp := rfl
@[simp] theorem State.finishCalibrate_hostData (s : State) (v : Byte) : (s.finishCalibrate v).hostData = s.hostData := rfl
@[simp] theorem State.finishCalibrate_unwrittenRead (s : State) (v : Byte) : (s.finishCalibrate v).unwrittenRead = s.unwrittenRead := rfl
@[simp] theorem State.finishCalibrate_agenda (s : State) (v : Byte) : (s.finishCalibrate v).agenda = s.agenda := rfl

@[simp] theorem State.leaveTo_refHz (s : State) (st : BitVec 4) : (s.leaveTo st).refHz = s.refHz := rfl
@[simp] theorem State.leaveTo_vcoHz (s : State) (st : BitVec 4) : (s.leaveTo st).vcoHz = s.vcoHz := rfl
@[simp] theorem State.leaveTo_out1Hz (s : State) (st : BitVec 4) : (s.leaveTo st).out1Hz = s.out1Hz := rfl
@[simp] theorem State.leaveTo_out2Hz (s : State) (st : BitVec 4) : (s.leaveTo st).out2Hz = s.out2Hz := rfl
@[simp] theorem State.leaveTo_out3Hz (s : State) (st : BitVec 4) : (s.leaveTo st).out3Hz = s.out3Hz := rfl
@[simp] theorem State.leaveTo_out4Hz (s : State) (st : BitVec 4) : (s.leaveTo st).out4Hz = s.out4Hz := rfl
@[simp] theorem State.leaveTo_fb (s : State) (st : BitVec 4) : (s.leaveTo st).fb = s.fb := rfl
@[simp] theorem State.leaveTo_od1 (s : State) (st : BitVec 4) : (s.leaveTo st).od1 = s.od1 := rfl
@[simp] theorem State.leaveTo_od2 (s : State) (st : BitVec 4) : (s.leaveTo st).od2 = s.od2 := rfl
@[simp] theorem State.leaveTo_od3 (s : State) (st : BitVec 4) : (s.leaveTo st).od3 = s.od3 := rfl
@[simp] theorem State.leaveTo_od4 (s : State) (st : BitVec 4) : (s.leaveTo st).od4 = s.od4 := rfl
@[simp] theorem State.leaveTo_sd (s : State) (st : BitVec 4) : (s.leaveTo st).sd = s.sd := rfl
@[simp] theorem State.leaveTo_calV (s : State) (st : BitVec 4) : (s.leaveTo st).calV = s.calV := rfl
@[simp] theorem State.leaveTo_calS (s : State) (st : BitVec 4) : (s.leaveTo st).calS = s.calS := rfl
@[simp] theorem State.leaveTo_vcoBand (s : State) (st : BitVec 4) : (s.leaveTo st).vcoBand = s.vcoBand := rfl
@[simp] theorem State.leaveTo_status (s : State) (st : BitVec 4) : (s.leaveTo st).status = s.status := rfl
@[simp] theorem State.leaveTo_ctl (s : State) (st : BitVec 4) : (s.leaveTo st).ctl = st := rfl
@[simp] theorem State.leaveTo_image (s : State) (st : BitVec 4) : (s.leaveTo st).image = s.image := rfl
@[simp] theorem State.leaveTo_imageWritten (s : State) (st : BitVec 4) : (s.leaveTo st).imageWritten = s.imageWritten := rfl
@[simp] theorem State.leaveTo_txp (s : State) (st : BitVec 4) : (s.leaveTo st).txp = s.txp := rfl
@[simp] theorem State.leaveTo_txreq (s : State) (st : BitVec 4) : (s.leaveTo st).txreq = s.txreq := rfl
@[simp] theorem State.leaveTo_resp (s : State) (st : BitVec 4) : (s.leaveTo st).resp = s.resp := rfl
@[simp] theorem State.leaveTo_texp (s : State) (st : BitVec 4) : (s.leaveTo st).texp = false := rfl
@[simp] theorem State.leaveTo_hostData (s : State) (st : BitVec 4) : (s.leaveTo st).hostData = s.hostData := rfl
@[simp] theorem State.leaveTo_unwrittenRead (s : State) (st : BitVec 4) : (s.leaveTo st).unwrittenRead = s.unwrittenRead := rfl
@[simp] theorem State.leaveTo_agenda (s : State) (st : BitVec 4) : (s.leaveTo st).agenda = s.agenda := rfl

@[simp] theorem State.returnData_refHz (s : State) (d : Word) : (s.returnData d).refHz = s.refHz := rfl
@[simp] theorem State.returnData_vcoHz (s : State) (d : Word) : (s.returnData d).vcoHz = s.vcoHz := rfl
@[simp] theorem State.returnData_out1Hz (s : State) (d : Word) : (s.returnData d).out1Hz = s.out1Hz := rfl
@[simp] theorem State.returnData_out2Hz (s : State) (d : Word) : (s.returnData d).out2Hz = s.out2Hz := rfl
@[simp] theorem State.returnData_out3Hz (s : State) (d : Word) : (s.returnData d).out3Hz = s.out3Hz := rfl
@[simp] theorem State.returnData_out4Hz (s : State) (d : Word) : (s.returnData d).out4Hz = s.out4Hz := rfl
@[simp] theorem State.returnData_fb (s : State) (d : Word) : (s.returnData d).fb = s.fb := rfl
@[simp] theorem State.returnData_od1 (s : State) (d : Word) : (s.returnData d).od1 = s.od1 := rfl
@[simp] theorem State.returnData_od2 (s : State) (d : Word) : (s.returnData d).od2 = s.od2 := rfl
@[simp] theorem State.returnData_od3 (s : State) (d : Word) : (s.returnData d).od3 = s.od3 := rfl
@[simp] theorem State.returnData_od4 (s : State) (d : Word) : (s.returnData d).od4 = s.od4 := rfl
@[simp] theorem State.returnData_sd (s : State) (d : Word) : (s.returnData d).sd = s.sd := rfl
@[simp] theorem State.returnData_calV (s : State) (d : Word) : (s.returnData d).calV = s.calV := rfl
@[simp] theorem State.returnData_calS (s : State) (d : Word) : (s.returnData d).calS = s.calS := rfl
@[simp] theorem State.returnData_vcoBand (s : State) (d : Word) : (s.returnData d).vcoBand = s.vcoBand := rfl
@[simp] theorem State.returnData_status (s : State) (d : Word) : (s.returnData d).status = s.status := rfl
@[simp] theorem State.returnData_ctl (s : State) (d : Word) : (s.returnData d).ctl = s.ctl := rfl
@[simp] theorem State.returnData_image (s : State) (d : Word) : (s.returnData d).image = s.image := rfl
@[simp] theorem State.returnData_imageWritten (s : State) (d : Word) : (s.returnData d).imageWritten = s.imageWritten := rfl
@[simp] theorem State.returnData_txp (s : State) (d : Word) : (s.returnData d).txp = s.txp := rfl
@[simp] theorem State.returnData_txreq (s : State) (d : Word) : (s.returnData d).txreq = s.txreq := rfl
@[simp] theorem State.returnData_resp (s : State) (d : Word) : (s.returnData d).resp = s.resp := rfl
@[simp] theorem State.returnData_texp (s : State) (d : Word) : (s.returnData d).texp = s.texp := rfl
@[simp] theorem State.returnData_hostData (s : State) (d : Word) : (s.returnData d).hostData = d := rfl
@[simp] theorem State.returnData_unwrittenRead (s : State) (d : Word) : (s.returnData d).unwrittenRead = s.unwrittenRead := rfl
@[simp] theorem State.returnData_agenda (s : State) (d : Word) : (s.returnData d).agenda = s.agenda := rfl

@[simp] theorem State.acceptCalibrate_refHz (s : State) : s.acceptCalibrate.refHz = s.refHz := rfl
@[simp] theorem State.acceptCalibrate_vcoHz (s : State) : s.acceptCalibrate.vcoHz = s.vcoHz := rfl
@[simp] theorem State.acceptCalibrate_out1Hz (s : State) : s.acceptCalibrate.out1Hz = s.out1Hz := rfl
@[simp] theorem State.acceptCalibrate_out2Hz (s : State) : s.acceptCalibrate.out2Hz = s.out2Hz := rfl
@[simp] theorem State.acceptCalibrate_out3Hz (s : State) : s.acceptCalibrate.out3Hz = s.out3Hz := rfl
@[simp] theorem State.acceptCalibrate_out4Hz (s : State) : s.acceptCalibrate.out4Hz = s.out4Hz := rfl
@[simp] theorem State.acceptCalibrate_fb (s : State) : s.acceptCalibrate.fb = s.fb := rfl
@[simp] theorem State.acceptCalibrate_od1 (s : State) : s.acceptCalibrate.od1 = s.od1 := rfl
@[simp] theorem State.acceptCalibrate_od2 (s : State) : s.acceptCalibrate.od2 = s.od2 := rfl
@[simp] theorem State.acceptCalibrate_od3 (s : State) : s.acceptCalibrate.od3 = s.od3 := rfl
@[simp] theorem State.acceptCalibrate_od4 (s : State) : s.acceptCalibrate.od4 = s.od4 := rfl
@[simp] theorem State.acceptCalibrate_sd (s : State) : s.acceptCalibrate.sd = s.sd := rfl
@[simp] theorem State.acceptCalibrate_calV (s : State) : s.acceptCalibrate.calV = s.calV := rfl
@[simp] theorem State.acceptCalibrate_calS (s : State) : s.acceptCalibrate.calS = s.calS := rfl
@[simp] theorem State.acceptCalibrate_vcoBand (s : State) : s.acceptCalibrate.vcoBand = s.vcoBand := rfl
@[simp] theorem State.acceptCalibrate_status (s : State) : s.acceptCalibrate.status = (s.status.accept true).uncalibrated := rfl
@[simp] theorem State.acceptCalibrate_ctl (s : State) : s.acceptCalibrate.ctl = Ctl.calRdctrl := rfl
@[simp] theorem State.acceptCalibrate_image (s : State) : s.acceptCalibrate.image = s.image := rfl
@[simp] theorem State.acceptCalibrate_imageWritten (s : State) : s.acceptCalibrate.imageWritten = s.imageWritten := rfl
@[simp] theorem State.acceptCalibrate_txp (s : State) : s.acceptCalibrate.txp = false := rfl
@[simp] theorem State.acceptCalibrate_txreq (s : State) : s.acceptCalibrate.txreq = s.txreq := rfl
@[simp] theorem State.acceptCalibrate_resp (s : State) : s.acceptCalibrate.resp = s.resp := rfl
@[simp] theorem State.acceptCalibrate_texp (s : State) : s.acceptCalibrate.texp = s.texp := rfl
@[simp] theorem State.acceptCalibrate_hostData (s : State) : s.acceptCalibrate.hostData = s.hostData := rfl
@[simp] theorem State.acceptCalibrate_unwrittenRead (s : State) : s.acceptCalibrate.unwrittenRead = s.unwrittenRead := rfl
@[simp] theorem State.acceptCalibrate_agenda (s : State) : s.acceptCalibrate.agenda = s.agenda := rfl

@[simp] theorem State.noteInputs_refHz (s : State) : s.noteInputs.refHz = s.refHz := by
  unfold State.noteInputs; split <;> rfl
@[simp] theorem State.noteInputs_vcoHz (s : State) : s.noteInputs.vcoHz = s.vcoHz := by
  unfold State.noteInputs; split <;> rfl
@[simp] theorem State.noteInputs_out1Hz (s : State) : s.noteInputs.out1Hz = s.out1Hz := by
  unfold State.noteInputs; split <;> rfl
@[simp] theorem State.noteInputs_out2Hz (s : State) : s.noteInputs.out2Hz = s.out2Hz := by
  unfold State.noteInputs; split <;> rfl
@[simp] theorem State.noteInputs_out3Hz (s : State) : s.noteInputs.out3Hz = s.out3Hz := by
  unfold State.noteInputs; split <;> rfl
@[simp] theorem State.noteInputs_out4Hz (s : State) : s.noteInputs.out4Hz = s.out4Hz := by
  unfold State.noteInputs; split <;> rfl
@[simp] theorem State.noteInputs_fb (s : State) : s.noteInputs.fb = s.fb := by
  unfold State.noteInputs; split <;> rfl
@[simp] theorem State.noteInputs_od1 (s : State) : s.noteInputs.od1 = s.od1 := by
  unfold State.noteInputs; split <;> rfl
@[simp] theorem State.noteInputs_od2 (s : State) : s.noteInputs.od2 = s.od2 := by
  unfold State.noteInputs; split <;> rfl
@[simp] theorem State.noteInputs_od3 (s : State) : s.noteInputs.od3 = s.od3 := by
  unfold State.noteInputs; split <;> rfl
@[simp] theorem State.noteInputs_od4 (s : State) : s.noteInputs.od4 = s.od4 := by
  unfold State.noteInputs; split <;> rfl
@[simp] theorem State.noteInputs_sd (s : State) : s.noteInputs.sd = s.sd := by
  unfold State.noteInputs; split <;> rfl
@[simp] theorem State.noteInputs_calV (s : State) : s.noteInputs.calV = s.calV := by
  unfold State.noteInputs; split <;> rfl
@[simp] theorem State.noteInputs_calS (s : State) : s.noteInputs.calS = s.calS := by
  unfold State.noteInputs; split <;> rfl
@[simp] theorem State.noteInputs_vcoBand (s : State) : s.noteInputs.vcoBand = s.vcoBand := by
  unfold State.noteInputs; split <;> rfl
@[simp] theorem State.noteInputs_status (s : State) : s.noteInputs.status = s.status := by
  unfold State.noteInputs; split <;> rfl
@[simp] theorem State.noteInputs_ctl (s : State) : s.noteInputs.ctl = s.ctl := by
  unfold State.noteInputs; split <;> rfl
@[simp] theorem State.noteInputs_image (s : State) : s.noteInputs.image = s.image := by
  unfold State.noteInputs; split <;> rfl
@[simp] theorem State.noteInputs_imageWritten (s : State) : s.noteInputs.imageWritten = s.imageWritten := by
  unfold State.noteInputs; split <;> rfl
@[simp] theorem State.noteInputs_txp (s : State) : s.noteInputs.txp = s.txp := by
  unfold State.noteInputs; split <;> rfl
@[simp] theorem State.noteInputs_txreq (s : State) : s.noteInputs.txreq = s.txreq := by
  unfold State.noteInputs; split <;> rfl
@[simp] theorem State.noteInputs_resp (s : State) : s.noteInputs.resp = s.resp := by
  unfold State.noteInputs; split <;> rfl
@[simp] theorem State.noteInputs_texp (s : State) : s.noteInputs.texp = s.texp := by
  unfold State.noteInputs; split <;> rfl
@[simp] theorem State.noteInputs_hostData (s : State) : s.noteInputs.hostData = s.hostData := by
  unfold State.noteInputs; split <;> rfl
@[simp] theorem State.noteInputs_unwrittenRead (s : State) : s.noteInputs.unwrittenRead =
    if s.inputsWritten then s.unwrittenRead else s.unwrittenRead.or (some .configure) := by
  unfold State.noteInputs; split <;> rfl
@[simp] theorem State.noteInputs_agenda (s : State) : s.noteInputs.agenda = s.agenda := by
  unfold State.noteInputs; split <;> rfl

@[simp] theorem Status.accept_result (f : Status) (calibrate : Bool) : (f.accept calibrate).result = ResultCode.none := rfl
@[simp] theorem Status.accept_lastCmd (f : Status) (calibrate : Bool) : (f.accept calibrate).lastCmd = calibrate := rfl
@[simp] theorem Status.accept_step (f : Status) (calibrate : Bool) : (f.accept calibrate).step = 0 := rfl
@[simp] theorem Status.accept_zeroInput (f : Status) (calibrate : Bool) : (f.accept calibrate).zeroInput = 0 := rfl
@[simp] theorem Status.accept_calIndet (f : Status) (calibrate : Bool) : (f.accept calibrate).calIndet = false := rfl
@[simp] theorem Status.accept_planValid (f : Status) (calibrate : Bool) : (f.accept calibrate).planValid = f.planValid := rfl
@[simp] theorem Status.accept_calValid (f : Status) (calibrate : Bool) : (f.accept calibrate).calValid = f.calValid := rfl

@[simp] theorem Status.transportError_result (f : Status) (code : BitVec 3) (indet : Bool) : (f.transportError code indet).result = ResultCode.transportError := rfl
@[simp] theorem Status.transportError_lastCmd (f : Status) (code : BitVec 3) (indet : Bool) : (f.transportError code indet).lastCmd = f.lastCmd := rfl
@[simp] theorem Status.transportError_step (f : Status) (code : BitVec 3) (indet : Bool) : (f.transportError code indet).step = code := rfl
@[simp] theorem Status.transportError_zeroInput (f : Status) (code : BitVec 3) (indet : Bool) : (f.transportError code indet).zeroInput = f.zeroInput := rfl
@[simp] theorem Status.transportError_calIndet (f : Status) (code : BitVec 3) (indet : Bool) : (f.transportError code indet).calIndet = (f.calIndet || indet) := rfl
@[simp] theorem Status.transportError_planValid (f : Status) (code : BitVec 3) (indet : Bool) : (f.transportError code indet).planValid = f.planValid := rfl
@[simp] theorem Status.transportError_calValid (f : Status) (code : BitVec 3) (indet : Bool) : (f.transportError code indet).calValid = f.calValid := rfl

@[simp] theorem Status.domainError_result (f : Status) (k : BitVec 3) : (f.domainError k).result = ResultCode.domainError := rfl
@[simp] theorem Status.domainError_lastCmd (f : Status) (k : BitVec 3) : (f.domainError k).lastCmd = f.lastCmd := rfl
@[simp] theorem Status.domainError_step (f : Status) (k : BitVec 3) : (f.domainError k).step = f.step := rfl
@[simp] theorem Status.domainError_zeroInput (f : Status) (k : BitVec 3) : (f.domainError k).zeroInput = k := rfl
@[simp] theorem Status.domainError_calIndet (f : Status) (k : BitVec 3) : (f.domainError k).calIndet = f.calIndet := rfl
@[simp] theorem Status.domainError_planValid (f : Status) (k : BitVec 3) : (f.domainError k).planValid = false := rfl
@[simp] theorem Status.domainError_calValid (f : Status) (k : BitVec 3) : (f.domainError k).calValid = f.calValid := rfl

@[simp] theorem Status.planned_result (f : Status) : f.planned.result = f.result := rfl
@[simp] theorem Status.planned_lastCmd (f : Status) : f.planned.lastCmd = f.lastCmd := rfl
@[simp] theorem Status.planned_step (f : Status) : f.planned.step = f.step := rfl
@[simp] theorem Status.planned_zeroInput (f : Status) : f.planned.zeroInput = f.zeroInput := rfl
@[simp] theorem Status.planned_calIndet (f : Status) : f.planned.calIndet = f.calIndet := rfl
@[simp] theorem Status.planned_planValid (f : Status) : f.planned.planValid = true := rfl
@[simp] theorem Status.planned_calValid (f : Status) : f.planned.calValid = f.calValid := rfl

@[simp] theorem Status.uncalibrated_result (f : Status) : f.uncalibrated.result = f.result := rfl
@[simp] theorem Status.uncalibrated_lastCmd (f : Status) : f.uncalibrated.lastCmd = f.lastCmd := rfl
@[simp] theorem Status.uncalibrated_step (f : Status) : f.uncalibrated.step = f.step := rfl
@[simp] theorem Status.uncalibrated_zeroInput (f : Status) : f.uncalibrated.zeroInput = f.zeroInput := rfl
@[simp] theorem Status.uncalibrated_calIndet (f : Status) : f.uncalibrated.calIndet = f.calIndet := rfl
@[simp] theorem Status.uncalibrated_planValid (f : Status) : f.uncalibrated.planValid = f.planValid := rfl
@[simp] theorem Status.uncalibrated_calValid (f : Status) : f.uncalibrated.calValid = false := rfl

@[simp] theorem Status.succeed_result (f : Status) : f.succeed.result = ResultCode.ok := rfl
@[simp] theorem Status.succeed_lastCmd (f : Status) : f.succeed.lastCmd = f.lastCmd := rfl
@[simp] theorem Status.succeed_step (f : Status) : f.succeed.step = f.step := rfl
@[simp] theorem Status.succeed_zeroInput (f : Status) : f.succeed.zeroInput = f.zeroInput := rfl
@[simp] theorem Status.succeed_calIndet (f : Status) : f.succeed.calIndet = f.calIndet := rfl
@[simp] theorem Status.succeed_planValid (f : Status) : f.succeed.planValid = f.planValid := rfl
@[simp] theorem Status.succeed_calValid (f : Status) : f.succeed.calValid = f.calValid := rfl

@[simp] theorem Status.calibrated_result (f : Status) : f.calibrated.result = ResultCode.ok := rfl
@[simp] theorem Status.calibrated_lastCmd (f : Status) : f.calibrated.lastCmd = f.lastCmd := rfl
@[simp] theorem Status.calibrated_step (f : Status) : f.calibrated.step = f.step := rfl
@[simp] theorem Status.calibrated_zeroInput (f : Status) : f.calibrated.zeroInput = f.zeroInput := rfl
@[simp] theorem Status.calibrated_calIndet (f : Status) : f.calibrated.calIndet = f.calIndet := rfl
@[simp] theorem Status.calibrated_planValid (f : Status) : f.calibrated.planValid = f.planValid := rfl
@[simp] theorem Status.calibrated_calValid (f : Status) : f.calibrated.calValid = true := rfl

@[simp] theorem Reg.of_val {w : Nat} (v : BitVec w) : (Reg.of v).val = v := rfl
@[simp] theorem Reg.of_written {w : Nat} (v : BitVec w) : (Reg.of v).written = true := rfl

@[simp] theorem State.acceptCommand_request (s : State) (calibrate : Bool) : (s.acceptCommand calibrate).request = s.request := rfl
@[simp] theorem State.recordUnwritten_request (s : State) (m : UnwrittenRead) : (s.recordUnwritten m).request = s.request := rfl
@[simp] theorem State.acceptCommand_inputsWritten (s : State) (calibrate : Bool) : (s.acceptCommand calibrate).inputsWritten = s.inputsWritten := rfl
@[simp] theorem State.recordUnwritten_inputsWritten (s : State) (m : UnwrittenRead) : (s.recordUnwritten m).inputsWritten = s.inputsWritten := rfl
@[simp] theorem State.noteInputs_request (s : State) : s.noteInputs.request = s.request := by
  simp only [State.request, State.noteInputs_refHz, State.noteInputs_vcoHz, State.noteInputs_out1Hz,
    State.noteInputs_out2Hz, State.noteInputs_out3Hz, State.noteInputs_out4Hz]

end Sys2Proof.Machine
end

