-- ==== Sys2Proof/Laws/Moves.lean ====
section
/-! SUPPORT. What one step can do, said once: the moves an instruction can make, and the four kinds of turn. -/

namespace Sys2Proof.Machine

/-- A move that an instruction, or a turn in which nothing is enabled, makes from `s`. -/
inductive Moves (s : State) : State → Prop where
  | stay : Moves s s
  | setInput (a : BitVec 8) (d : Word) (t : State) (h : s.setInput a d = some t) : Moves s t
  | hostRead (a : BitVec 8) (r : Reg 32) (h : s.hostRegister a = some r) :
      Moves s ((if r.written then s else s.recordUnwritten (.hostRead a)).returnData r.val)
  | domainError (k : BitVec 3) (h : s.ctl = Ctl.idle) (hk : dchk s.request = some k) :
      Moves s ((s.noteInputs.acceptCommand false).raiseDomainError k)
  | plan (h : s.ctl = Ctl.idle) (hk : dchk s.request = none) :
      Moves s (((s.noteInputs.acceptCommand false).storePlan s.request.plan).enterCfgWrite)
  | calibrate (h : s.ctl = Ctl.idle) : Moves s s.acceptCalibrate
  | issue (q : TxReq) (hp : s.txp = false) (h : s.requestOfState = some q) : Moves s (s.issue q)
  | cfgOk (h : s.ctl = Ctl.cfgWrite) (hp : s.txp = true) (hr : s.resp = .ok []) :
      Moves s s.consume.finishConfigure
  | rdctrlOk (v : Byte) (h : s.ctl = Ctl.calRdctrl) (hp : s.txp = true) (hr : s.resp = .ok [v]) :
      Moves s (s.consume.holdControl v)
  | writeOk (st w : BitVec 4) (hw : (st, w) ∈ [(Ctl.calClr1, Ctl.calWait1), (Ctl.calSet, Ctl.calWait2),
      (Ctl.calClr2, Ctl.calWait3)]) (h : s.ctl = st) (hp : s.txp = true) (hr : s.resp = .ok []) :
      Moves s (s.consume.enterWait w)
  | rdresOk (v : Byte) (h : s.ctl = Ctl.calRdres) (hp : s.txp = true) (hr : s.resp = .ok [v]) :
      Moves s (s.consume.finishCalibrate v)
  | fail (st : BitVec 4) (code : BitVec 3) (indet : Bool)
      (hc : (st, code, indet) ∈ [(Ctl.cfgWrite, 0, false), (Ctl.calRdctrl, 1, false), (Ctl.calClr1, 2, true),
        (Ctl.calSet, 3, true), (Ctl.calClr2, 4, true), (Ctl.calRdres, 5, false)])
      (h : s.ctl = st) (hp : s.txp = true) (hr : s.resp = .fail) :
      Moves s (s.raiseTransportError code indet)
  | leave (st w : BitVec 4) (hw : (st, w) ∈ [(Ctl.calWait1, Ctl.calSet), (Ctl.calWait2, Ctl.calClr2),
      (Ctl.calWait3, Ctl.calRdres)]) (h : s.ctl = st) (ht : s.texp = true) :
      Moves s (s.leaveTo w)

/-- An accepted CONFIGURE finds a zero or makes a plan. -/
theorem acceptConfigure_moves {s : State} (h : s.ctl = Ctl.idle) : Moves s s.acceptConfigure := by
  unfold State.acceptConfigure
  cases hk : dchk s.request with
  | some k => exact .domainError k h hk
  | none => exact .plan h hk

/-- An issue step that goes on issues its request from its state. -/
theorem issueStep_next {st : BitVec 4} {q : TxReq} {s t : State} (h : issueStep st q s = .next t) :
    s.ctl = st ∧ s.txp = false ∧ t = s.issue q := by
  unfold issueStep at h
  split at h
  · next hg => exact ⟨hg.1, hg.2, by cases h; rfl⟩
  · cases h

/-- A transaction presented on the bus goes on only as the issue step that sends those bytes. -/
theorem issueTransaction_next {st : BitVec 4} {sent q : TxReq} {s t : State}
    (h : issueTransaction st sent q s = .next t) : q = sent ∧ s.ctl = st ∧ s.txp = false ∧ t = s.issue q := by
  unfold issueTransaction at h
  split at h
  · next hq => exact ⟨hq, issueStep_next h⟩
  · cases h

/-- The complete step of a write that goes on has an OK answer without bytes, or a FAIL. -/
theorem completeWrite_next {st : BitVec 4} {onOk onFail : State → State} {s t : State}
    (h : completeWrite st onOk onFail s = .next t) :
    s.ctl = st ∧ s.txp = true ∧ ((s.resp = .ok [] ∧ t = onOk s.consume) ∨ (s.resp = .fail ∧ t = onFail s)) := by
  unfold completeWrite at h
  split at h
  · next hg =>
    refine ⟨hg.1, hg.2, ?_⟩
    split at h
    · cases h
    · next hr => exact .inl ⟨hr, by cases h; rfl⟩
    · cases h
    · next hr => exact .inr ⟨hr, by cases h; rfl⟩
  · cases h

/-- The complete step of a read that goes on has an OK answer of one byte, or a FAIL. -/
theorem completeRead_next {st : BitVec 4} {onOk : Byte → State → State} {onFail : State → State} {s t : State}
    (h : completeRead st onOk onFail s = .next t) :
    s.ctl = st ∧ s.txp = true ∧
      ((∃ v, s.resp = .ok [v] ∧ t = onOk v s.consume) ∨ (s.resp = .fail ∧ t = onFail s)) := by
  unfold completeRead at h
  split at h
  · next hg =>
    refine ⟨hg.1, hg.2, ?_⟩
    split at h
    · cases h
    · next v hr => exact .inl ⟨v, hr, by cases h; rfl⟩
    · cases h
    · next hr => exact .inr ⟨hr, by cases h; rfl⟩
  · cases h

/-- A wait step that goes on leaves its state with TEXP = 1. -/
theorem leaveWait_next {st w : BitVec 4} {s t : State} (h : leaveWait st w s = .next t) :
    s.ctl = st ∧ s.texp = true ∧ t = s.leaveTo w := by
  unfold leaveWait at h
  split at h
  · next hg => exact ⟨hg.1, hg.2, by cases h; rfl⟩
  · cases h

theorem not_busy_iff {s : State} : s.busy = false ↔ s.ctl = Ctl.idle := by
  simp [State.busy]

/-- A command write that goes on is a NOP, a CONFIGURE or a CALIBRATE in IDLE. -/
theorem commandWrite_next {s t : State} {d : Word} (h : s.commandWrite d = .next t) :
    s.ctl = Ctl.idle ∧ (t = s ∨ t = s.acceptConfigure ∨ t = s.acceptCalibrate) := by
  unfold State.commandWrite at h
  split at h
  · cases h
  · split at h
    · cases h
    · next hb =>
      refine ⟨not_busy_iff.mp (by simpa using hb), ?_⟩
      split at h <;> cases h <;> simp

/-- Every instruction that goes on makes one of the moves. -/
theorem exec_moves {i : Instr} {s t : State} (h : exec i s = .next t) : Moves s t := by
  have guarded : ∀ {u : State}, (if s.busy then .refused .busy else .next u : Answer) = .next t →
      s.ctl = Ctl.idle ∧ t = u := by
    intro u hu
    split at hu
    · cases hu
    · next hb => exact ⟨not_busy_iff.mp (by simpa using hb), by cases hu; rfl⟩
  cases i with
  | hwrIn a d =>
    simp only [exec, execHwrIn] at h
    split at h
    · next u hu => cases h; exact .setInput a d _ hu
    · cases h
  | hwrCmd d =>
    obtain ⟨hi, rfl | rfl | rfl⟩ := commandWrite_next (show s.commandWrite d = .next t from h)
    · exact .stay
    · exact acceptConfigure_moves hi
    · exact .calibrate hi
  | hrd a =>
    simp only [exec, execHrd] at h
    split at h
    · next r hr => cases h; exact .hostRead a r hr
    · cases h
  | cmdNop => obtain ⟨-, rfl⟩ := guarded h; exact .stay
  | cmdConfigure => obtain ⟨hi, rfl⟩ := guarded h; exact acceptConfigure_moves hi
  | cmdCalibrate => obtain ⟨hi, rfl⟩ := guarded h; exact .calibrate hi
  | cmdRsvd => simp only [exec, execCmdRsvd] at h; split at h <;> cases h
  | stepCfgIssue =>
    simp only [exec, execStepCfgIssue] at h
    obtain ⟨hc, hp, rfl⟩ := issueStep_next h
    exact .issue _ hp (by simp [State.requestOfState, hc])
  | stepRdctrlIssue =>
    simp only [exec, execStepRdctrlIssue] at h
    obtain ⟨hc, hp, rfl⟩ := issueStep_next h
    exact .issue _ hp (by simp [State.requestOfState, hc])
  | stepClr1Issue =>
    simp only [exec, execStepClr1Issue] at h
    obtain ⟨hc, hp, rfl⟩ := issueStep_next h
    exact .issue _ hp (by simp [State.requestOfState, hc])
  | stepSetIssue =>
    simp only [exec, execStepSetIssue] at h
    obtain ⟨hc, hp, rfl⟩ := issueStep_next h
    exact .issue _ hp (by simp [State.requestOfState, hc])
  | stepClr2Issue =>
    simp only [exec, execStepClr2Issue] at h
    obtain ⟨hc, hp, rfl⟩ := issueStep_next h
    exact .issue _ hp (by simp [State.requestOfState, hc])
  | stepRdresIssue =>
    simp only [exec, execStepRdresIssue] at h
    obtain ⟨hc, hp, rfl⟩ := issueStep_next h
    exact .issue _ hp (by simp [State.requestOfState, hc])
  | stepCfgDone =>
    simp only [exec, execStepCfgDone] at h
    obtain ⟨hc, hp, ⟨hr, rfl⟩ | ⟨hr, rfl⟩⟩ := completeWrite_next h
    · exact .cfgOk hc hp hr
    · exact .fail _ 0 false (by simp) hc hp hr
  | stepRdctrlDone =>
    simp only [exec, execStepRdctrlDone] at h
    obtain ⟨hc, hp, ⟨v, hr, rfl⟩ | ⟨hr, rfl⟩⟩ := completeRead_next h
    · exact .rdctrlOk v hc hp hr
    · exact .fail _ 1 false (by simp) hc hp hr
  | stepClr1Done =>
    simp only [exec, execStepClr1Done] at h
    obtain ⟨hc, hp, ⟨hr, rfl⟩ | ⟨hr, rfl⟩⟩ := completeWrite_next h
    · exact .writeOk _ _ (by simp) hc hp hr
    · exact .fail _ 2 true (by simp) hc hp hr
  | stepSetDone =>
    simp only [exec, execStepSetDone] at h
    obtain ⟨hc, hp, ⟨hr, rfl⟩ | ⟨hr, rfl⟩⟩ := completeWrite_next h
    · exact .writeOk _ _ (by simp) hc hp hr
    · exact .fail _ 3 true (by simp) hc hp hr
  | stepClr2Done =>
    simp only [exec, execStepClr2Done] at h
    obtain ⟨hc, hp, ⟨hr, rfl⟩ | ⟨hr, rfl⟩⟩ := completeWrite_next h
    · exact .writeOk _ _ (by simp) hc hp hr
    · exact .fail _ 4 true (by simp) hc hp hr
  | stepRdresDone =>
    simp only [exec, execStepRdresDone] at h
    obtain ⟨hc, hp, ⟨v, hr, rfl⟩ | ⟨hr, rfl⟩⟩ := completeRead_next h
    · exact .rdresOk v hc hp hr
    · exact .fail _ 5 false (by simp) hc hp hr
  | stepWait1 =>
    simp only [exec, execStepWait1] at h
    obtain ⟨hc, ht, rfl⟩ := leaveWait_next h
    exact .leave _ _ (by simp) hc ht
  | stepWait2 =>
    simp only [exec, execStepWait2] at h
    obtain ⟨hc, ht, rfl⟩ := leaveWait_next h
    exact .leave _ _ (by simp) hc ht
  | stepWait3 =>
    simp only [exec, execStepWait3] at h
    obtain ⟨hc, ht, rfl⟩ := leaveWait_next h
    exact .leave _ _ (by simp) hc ht
  | stepRsvd code => cases h
  | txCfg payload =>
    simp only [exec, execTxCfg] at h
    obtain ⟨hq, hc, hp, rfl⟩ := issueTransaction_next h
    exact .issue _ hp (by rw [hq]; simp [State.requestOfState, hc])
  | txRdctrl =>
    simp only [exec, execTxRdctrl] at h
    obtain ⟨hq, hc, hp, rfl⟩ := issueTransaction_next h
    exact .issue _ hp (by rw [hq]; simp [State.requestOfState, hc])
  | txClr1 v =>
    simp only [exec, execTxClr1] at h
    obtain ⟨hq, hc, hp, rfl⟩ := issueTransaction_next h
    exact .issue _ hp (by rw [hq]; simp [State.requestOfState, hc])
  | txSet v =>
    simp only [exec, execTxSet] at h
    obtain ⟨hq, hc, hp, rfl⟩ := issueTransaction_next h
    exact .issue _ hp (by rw [hq]; simp [State.requestOfState, hc])
  | txClr2 v =>
    simp only [exec, execTxClr2] at h
    obtain ⟨hq, hc, hp, rfl⟩ := issueTransaction_next h
    exact .issue _ hp (by rw [hq]; simp [State.requestOfState, hc])
  | txRdres =>
    simp only [exec, execTxRdres] at h
    obtain ⟨hq, hc, hp, rfl⟩ := issueTransaction_next h
    exact .issue _ hp (by rw [hq]; simp [State.requestOfState, hc])

/-- The state with the first turn taken off the agenda. -/
def State.popped (s : State) : State := { s with agenda := s.agenda.tail }

/-- The block's control-step byte decodes to the step that its registers select. -/
theorem decode_controlStep (s : State) :
    decode s.controlStep = selectStep s.ctl s.txp (s.resp != .empty) s.texp := by
  have key : ∀ (c : BitVec 4) (a b d : Bool), decodeControlStep [controlStepByte c a b d] = selectStep c a b d := by
    decide
  exact key _ _ _ _

/-- At a reserved code the block's step is STEP_RSVD, whatever the other registers hold. -/
theorem selectStep_reserved {c : BitVec 4} (h : 10 ≤ c.toNat) (a b d : Bool) :
    selectStep c a b d = .ok (.stepRsvd c) := by
  revert h a b d; revert c; decide

/-- An instruction fetched and gone on makes one of the moves. -/
theorem run_moves {e : Encoded} {u t : State}
    (h : (match decode e with | .ok i => exec i u | .error why => rejected why u : Answer) = .next t) :
    Moves u t := by
  split at h
  · exact exec_moves h
  · next why hw =>
    cases why <;> simp only [rejected] at h <;> cases h <;> exact .stay

/-- One step is a reset, or, while STATE holds no reserved code, a turn of the transport, a turn of time, or a move of
an instruction (R31, R183). -/
theorem step_cases {s t : State} (h : step s = .next t) :
    (s.agenda.head? = some .reset ∧ t = s.popped.resetTurn) ∨
    (s.agenda.head? ≠ some .reset ∧ s.ctl.toNat ≤ 9 ∧
      ((∃ d, s.agenda.head? = some (.transport d) ∧ t = s.popped.transportTurn d) ∨
       (s.agenda.head? = some .time ∧ t = s.popped.timeTurn) ∨
       (s.agenda.head? ≠ some .time ∧ Moves s.popped t))) := by
  have blocked : ∀ {u : State}, 10 ≤ s.ctl.toNat →
      (match decode s.controlStep with | .ok i => exec i u | .error why => rejected why u : Answer) ≠ .next t := by
    intro u hc hn
    rw [decode_controlStep, selectStep_reserved hc] at hn
    cases hn
  have legal : ∀ {u : State},
      (match decode s.controlStep with | .ok i => exec i u | .error why => rejected why u : Answer) = .next t →
      s.ctl.toNat ≤ 9 := by
    intro u hn
    by_contra hc
    exact blocked (by omega) hn
  unfold step State.fetch at h
  cases ha : s.agenda with
  | nil =>
    simp only [ha] at h
    refine .inr ⟨by simp, legal h, .inr (.inr ⟨by simp, ?_⟩)⟩
    have hp : s.popped = s := by cases s; simp_all [State.popped]
    rw [hp]
    exact run_moves h
  | cons turn rest =>
    have hpop : s.popped = { s with agenda := rest } := by simp [State.popped, ha]
    rw [hpop]
    simp only [ha] at h
    cases turn with
    | reset => exact .inl ⟨rfl, by cases h; rfl⟩
    | block => exact .inr ⟨by simp, legal h, .inr (.inr ⟨by simp, run_moves h⟩)⟩
    | present e =>
      by_cases hc : 10 ≤ s.ctl.toNat
      · simp only [hc, if_true] at h
        exact absurd h (blocked hc)
      · simp only [hc, if_false] at h
        exact .inr ⟨by simp, by omega, .inr (.inr ⟨by simp, run_moves h⟩)⟩
    | transport d =>
      by_cases hc : 10 ≤ s.ctl.toNat
      · simp only [hc, if_true] at h
        exact absurd h (blocked hc)
      · simp only [hc, if_false] at h
        exact .inr ⟨by simp, by omega, .inl ⟨d, rfl, by cases h; rfl⟩⟩
    | time =>
      by_cases hc : 10 ≤ s.ctl.toNat
      · simp only [hc, if_true] at h
        exact absurd h (blocked hc)
      · simp only [hc, if_false] at h
        exact .inr ⟨by simp, by omega, .inr (.inl ⟨rfl, by cases h; rfl⟩)⟩

end Sys2Proof.Machine
end

