-- ==== Sys2Proof/Laws/PerInstr.lean ====
section
/-! SUPPORT. One lemma per constructor of Instr, for the families of LAWS.json. -/

namespace Sys2Proof.Laws

/-- The numbers of bytes an encoding of each form has (R80, R91; how the host forms and the control step lie in bytes:
log 5). -/
def lengthsOf : Form → List Nat
  | .hostWrite    => [5]
  | .hostRead     => [1]
  | .cmdWord      => [4]
  | .controlStep  => [1]
  | .busWrite     => [2, 107]
  | .busWriteRead => [1]

/-- A well-formed instruction's encoding has a length that its form has. -/
def EncodedLength.Statement (i : Instr) : Prop :=
  i.wellFormed = true → (encode i).bytes.length ∈ lengthsOf (encode i).form

theorem EncodedLength.hwrIn (a : BitVec 8) (d : Word) : EncodedLength.Statement (.hwrIn a d) :=
  fun _ => by simp [encode, wordBytes, lengthsOf]

theorem EncodedLength.hwrCmd (d : Word) : EncodedLength.Statement (.hwrCmd d) :=
  fun _ => by simp [encode, wordBytes, lengthsOf]

theorem EncodedLength.hrd (a : BitVec 8) : EncodedLength.Statement (.hrd a) :=
  fun _ => by simp [encode, lengthsOf]

theorem EncodedLength.cmdNop : EncodedLength.Statement (.cmdNop) :=
  fun _ => by decide

theorem EncodedLength.cmdConfigure : EncodedLength.Statement (.cmdConfigure) :=
  fun _ => by decide

theorem EncodedLength.cmdCalibrate : EncodedLength.Statement (.cmdCalibrate) :=
  fun _ => by decide

theorem EncodedLength.cmdRsvd : EncodedLength.Statement (.cmdRsvd) :=
  fun _ => by decide

theorem EncodedLength.stepCfgIssue : EncodedLength.Statement (.stepCfgIssue) :=
  fun _ => by decide

theorem EncodedLength.stepCfgDone : EncodedLength.Statement (.stepCfgDone) :=
  fun _ => by decide

theorem EncodedLength.stepRdctrlIssue : EncodedLength.Statement (.stepRdctrlIssue) :=
  fun _ => by decide

theorem EncodedLength.stepRdctrlDone : EncodedLength.Statement (.stepRdctrlDone) :=
  fun _ => by decide

theorem EncodedLength.stepClr1Issue : EncodedLength.Statement (.stepClr1Issue) :=
  fun _ => by decide

theorem EncodedLength.stepClr1Done : EncodedLength.Statement (.stepClr1Done) :=
  fun _ => by decide

theorem EncodedLength.stepWait1 : EncodedLength.Statement (.stepWait1) :=
  fun _ => by decide

theorem EncodedLength.stepSetIssue : EncodedLength.Statement (.stepSetIssue) :=
  fun _ => by decide

theorem EncodedLength.stepSetDone : EncodedLength.Statement (.stepSetDone) :=
  fun _ => by decide

theorem EncodedLength.stepWait2 : EncodedLength.Statement (.stepWait2) :=
  fun _ => by decide

theorem EncodedLength.stepClr2Issue : EncodedLength.Statement (.stepClr2Issue) :=
  fun _ => by decide

theorem EncodedLength.stepClr2Done : EncodedLength.Statement (.stepClr2Done) :=
  fun _ => by decide

theorem EncodedLength.stepWait3 : EncodedLength.Statement (.stepWait3) :=
  fun _ => by decide

theorem EncodedLength.stepRdresIssue : EncodedLength.Statement (.stepRdresIssue) :=
  fun _ => by decide

theorem EncodedLength.stepRdresDone : EncodedLength.Statement (.stepRdresDone) :=
  fun _ => by decide

theorem EncodedLength.stepRsvd (code : BitVec 4) : EncodedLength.Statement (.stepRsvd code) :=
  fun _ => by simp [encode, encodeStep, lengthsOf]

theorem EncodedLength.txCfg (payload : List Byte) : EncodedLength.Statement (.txCfg payload) :=
  fun h => by
    simp only [Instr.wellFormed, beq_iff_eq] at h
    simp [encode, lengthsOf, h]

theorem EncodedLength.txRdctrl : EncodedLength.Statement (.txRdctrl) :=
  fun _ => by decide

theorem EncodedLength.txClr1 (v : BitVec 7) : EncodedLength.Statement (.txClr1 v) :=
  fun _ => by simp [encode, encodeCalWrite, lengthsOf]

theorem EncodedLength.txSet (v : BitVec 7) : EncodedLength.Statement (.txSet v) :=
  fun _ => by simp [encode, encodeCalWrite, lengthsOf]

theorem EncodedLength.txClr2 (v : BitVec 7) : EncodedLength.Statement (.txClr2 v) :=
  fun _ => by simp [encode, encodeCalWrite, lengthsOf]

theorem EncodedLength.txRdres : EncodedLength.Statement (.txRdres) :=
  fun _ => by decide

end Sys2Proof.Laws
end

