-- ==== Sys2Proof/Laws/Plan.lean ====
section
/-! SUPPORT. What the zero check, the dividers and an accepted CONFIGURE do, said once. -/

namespace Sys2Proof.Machine

/-- The zero check passes exactly when no input is 0. -/
theorem firstZero_eq_none {l : List Word} {j : BitVec 3} : firstZero j l = none ↔ ∀ x ∈ l, x ≠ 0 := by
  induction l generalizing j with
  | nil => simp [firstZero]
  | cons x xs ih => simp only [firstZero]; split <;> simp_all

theorem dchk_eq_none {r : Request} :
    dchk r = none ↔ r.ref ≠ 0 ∧ r.vco ≠ 0 ∧ r.out1 ≠ 0 ∧ r.out2 ≠ 0 ∧ r.out3 ≠ 0 ∧ r.out4 ≠ 0 := by
  simp [dchk, firstZero_eq_none, Request.inputs]

/-- The zero check reports the place of the first 0. -/
theorem firstZero_of_first {l : List Word} {k : Nat} {j : BitVec 3} (hk : l[k]? = some 0)
    (hj : ∀ i, i < k → l[i]? ≠ some 0) : firstZero j l = some (j + BitVec.ofNat 3 k) := by
  induction l generalizing k j with
  | nil => simp at hk
  | cons x xs ih =>
    cases k with
    | zero => simp at hk; simp [firstZero, hk]
    | succ k =>
      have hx : x ≠ 0 := fun e => hj 0 (by omega) (by simp [e])
      simp only [firstZero, hx, if_false]
      rw [ih (k := k) (by simpa using hk) (fun i hi => by simpa using hj (i + 1) (by omega)),
        BitVec.ofNat_add, BitVec.add_assoc, BitVec.add_comm 1]
      rfl

/-- A scaled quotient loses nothing in 64 bits. -/
theorem scaled_div_toNat (a b : Word) {k : Nat} (hk : k ≤ 32) :
    ((a.setWidth 64 <<< k) / b.setWidth 64).toNat = a.toNat * 2 ^ k / b.toNat := by
  have ha := a.isLt
  have hb := b.isLt
  rw [BitVec.toNat_udiv, BitVec.toNat_shiftLeft, BitVec.toNat_setWidth, BitVec.toNat_setWidth, Nat.shiftLeft_eq,
    Nat.mod_eq_of_lt (show a.toNat < 2 ^ 64 by omega), Nat.mod_eq_of_lt (show b.toNat < 2 ^ 64 by omega),
    Nat.mod_eq_of_lt]
  calc a.toNat * 2 ^ k ≤ a.toNat * 2 ^ 32 := Nat.mul_le_mul_left _ (Nat.pow_le_pow_right (by decide) hk)
    _ < 2 ^ 64 := by omega

theorem fbdiv_toNat (ref vco : Word) : (fbdiv ref vco).toNat = vco.toNat * 2 ^ 32 / ref.toNat :=
  scaled_div_toNat vco ref (by decide)

theorem odiv_toNat (vco out : Word) : (odiv vco out).toNat = vco.toNat * 2 ^ 31 / out.toNat :=
  scaled_div_toNat vco out (by decide)

/-- The low 32 bits as a mask and as a field. -/
theorem and_low_eq_zero (fb : DWord) : fb &&& 0xFFFFFFFF = 0 ↔ fb.extractLsb' 0 32 = 0 := by
  have hm : (fb &&& 0xFFFFFFFF).toNat = fb.toNat % 2 ^ 32 := by
    rw [BitVec.toNat_and, ← Nat.and_two_pow_sub_one_eq_mod]
    rfl
  have he : (fb.extractLsb' 0 32).toNat = fb.toNat % 2 ^ 32 := by simp [BitVec.extractLsb'_toNat]
  rw [← BitVec.toNat_inj, ← BitVec.toNat_inj, hm, he]
  exact Iff.rfl

theorem sdsel_eq (fb : DWord) : sdsel fb = if fb.extractLsb' 0 32 = 0 then 0 else 3 := by
  simp only [sdsel, and_low_eq_zero]

theorem noteInputs_of_written {s : State} (hw : s.inputsWritten = true) : s.noteInputs = s := by
  simp [State.noteInputs, hw]

/-- An accepted CONFIGURE that passes the zero check, with every input written. -/
theorem acceptConfigure_planned {s : State} (hw : s.inputsWritten = true) (hd : dchk s.request = none) :
    s.acceptConfigure = ((s.acceptCommand false).storePlan s.request.plan).enterCfgWrite := by
  simp only [State.acceptConfigure, noteInputs_of_written hw, hd]

/-- An accepted CONFIGURE that finds a zero, with every input written. -/
theorem acceptConfigure_zero {s : State} {k : BitVec 3} (hw : s.inputsWritten = true) (hd : dchk s.request = some k) :
    s.acceptConfigure = (s.acceptCommand false).raiseDomainError k := by
  simp only [State.acceptConfigure, noteInputs_of_written hw, hd]

end Sys2Proof.Machine
end

