-- ==== Sys2Proof/Machine/HostProgram.lean ====
section
/-! DEFINITION. The host's program syntax (R92) and its pseudo-operations (R93), as turns of the agenda. -/

namespace Sys2Proof.Machine

/-- The command names of R92. -/
inductive CommandName where
  | nop
  | configure
  | calibrate
  deriving DecidableEq, Repr

/-- One line of a host program: `WR <name>, <value>`, `RD <name>`, `CMD <command>` (R92); a name stands as its
address (R36). -/
inductive HostLine where
  | wr (a : BitVec 8) (value : Word)
  | rd (a : BitVec 8)
  | cmd (c : CommandName)
  deriving DecidableEq, Repr

/-- The CMD word of a command name (R92). -/
def CommandName.word : CommandName → Word
  | .nop => 0
  | .configure => 1
  | .calibrate => 2

/-- The encoding of a line: the pair (A, D) of a write, or the A of a read (R92). -/
def HostLine.encoded : HostLine → Encoded
  | .wr a value => ⟨.hostWrite, 0, a :: wordBytes value⟩
  | .rd a => ⟨.hostRead, 0, [a]⟩
  | .cmd c => ⟨.hostWrite, 0, 0x06 :: wordBytes c.word⟩

/-- A line as the host's turn. -/
def HostLine.turn (l : HostLine) : Turn := .present l.encoded

/-- POLL: `n` reads of STATUS (R93); how many it takes until BUSY = 0 is the run's. -/
def pollLines (n : Nat) : List HostLine := List.replicate n (.rd 0x07)

/-- `CONFIGURE ref, vco, o1, o2, o3, o4` (R93), with `n` polls. -/
def configureLines (r : Request) (n : Nat) : List HostLine :=
  [.wr 0x00 r.ref, .wr 0x01 r.vco, .wr 0x02 r.out1, .wr 0x03 r.out2, .wr 0x04 r.out3, .wr 0x05 r.out4,
   .cmd .configure] ++ pollLines n

/-- `CALIBRATE` (R93), with `n` polls. -/
def calibrateLines (n : Nat) : List HostLine := .cmd .calibrate :: pollLines n

end Sys2Proof.Machine
end

