-- ==== Sys2Proof/Tests/Slice0.lean ====
section
/-! SUPPORT. The model's own tests. Every expected value is the spec's: written out from its encodings, or a vector of
95_test_vectors.md, named in each docstring. The witnesses at the end meet the hypotheses of the obligations. -/

namespace Sys2Proof.Tests

open Sys2Proof.Machine

/-! ### WellFormed refuses -/

/-- R180: 0x06 is no input. -/
theorem test_illformed_input : (Instr.hwrIn 0x06 0).wellFormed = false := by decide
/-- R37: CMD and the reserved addresses are not readable. -/
theorem test_illformed_read :
    (Instr.hrd 0x06).wellFormed = false ∧ (Instr.hrd 0x16).wellFormed = false ∧ (Instr.hrd 0x3F).wellFormed = false ∧
    (Instr.hrd 0xAB).wellFormed = false ∧ (Instr.hrd 0xFF).wellFormed = false := by decide
/-- R31: 9 is no reserved code. -/
theorem test_illformed_reserved : (Instr.stepRsvd 9).wellFormed = false := by decide
/-- R86: the payload has 106 bytes. -/
theorem test_illformed_payload :
    (Instr.txCfg []).wellFormed = false ∧ (Instr.txCfg (List.replicate 107 0)).wellFormed = false := by decide

/-! ### Decoding, from words written out from the encodings -/

/-- R81, HOST-3. -/
theorem test_decode_hwrIn : decode ⟨.hostWrite, 0, [0x01, 0x00, 0xBB, 0xEE, 0xA0]⟩ = .ok (.hwrIn 0x01 0xA0EEBB00) := by
  decide
/-- P1's `CMD CONFIGURE`. -/
theorem test_decode_hwrCmd : decode ⟨.hostWrite, 0, [0x06, 0x01, 0x00, 0x00, 0x00]⟩ = .ok (.hwrCmd 1) := by decide
/-- R36: the ends of the readable ranges. -/
theorem test_decode_hrd :
    decode ⟨.hostRead, 0, [0x07]⟩ = .ok (.hrd 0x07) ∧ decode ⟨.hostRead, 0, [0x15]⟩ = .ok (.hrd 0x15) ∧
    decode ⟨.hostRead, 0, [0x40]⟩ = .ok (.hrd 0x40) ∧ decode ⟨.hostRead, 0, [0xAA]⟩ = .ok (.hrd 0xAA) := by decide
/-- HOST-5 to HOST-8, CMD-5: refused by name. -/
theorem test_decode_refused :
    decode ⟨.hostWrite, 0, [0x07, 5, 0, 0, 0]⟩ = .error (.writeReadOnly 0x07) ∧
    decode ⟨.hostWrite, 0, [0x40, 0, 0, 0, 0]⟩ = .error (.writeReadOnly 0x40) ∧
    decode ⟨.hostWrite, 0, [0x16, 0, 0, 0, 0]⟩ = .error (.reservedAddress 0x16) ∧
    decode ⟨.hostRead, 0, [0x06]⟩ = .error .readOfCmd ∧ decode ⟨.hostRead, 0, [0xAB]⟩ = .error (.reservedAddress 0xAB) ∧
    decode ⟨.cmdWord, 0, [5, 0, 0, 0]⟩ = .error (.cmdReservedBits 5) := by decide
/-- R82. -/
theorem test_decode_cmd :
    decode ⟨.cmdWord, 0, [0b00, 0, 0, 0]⟩ = .ok .cmdNop ∧ decode ⟨.cmdWord, 0, [0b01, 0, 0, 0]⟩ = .ok .cmdConfigure ∧
    decode ⟨.cmdWord, 0, [0b10, 0, 0, 0]⟩ = .ok .cmdCalibrate ∧ decode ⟨.cmdWord, 0, [0b11, 0, 0, 0]⟩ = .ok .cmdRsvd := by
  decide
/-- R30, R83: the issue steps, from STATE and TXP = 0. -/
theorem test_decode_issue :
    selectStep 1 false false false = .ok .stepCfgIssue ∧ selectStep 2 false false false = .ok .stepRdctrlIssue ∧
    selectStep 3 false false false = .ok .stepClr1Issue ∧ selectStep 5 false false false = .ok .stepSetIssue ∧
    selectStep 7 false false false = .ok .stepClr2Issue ∧ selectStep 9 false false false = .ok .stepRdresIssue := by decide
/-- R30, R83: the complete steps, from STATE, TXP = 1 and RESP != EMPTY. -/
theorem test_decode_done :
    selectStep 1 true true false = .ok .stepCfgDone ∧ selectStep 2 true true false = .ok .stepRdctrlDone ∧
    selectStep 3 true true false = .ok .stepClr1Done ∧ selectStep 5 true true false = .ok .stepSetDone ∧
    selectStep 7 true true false = .ok .stepClr2Done ∧ selectStep 9 true true false = .ok .stepRdresDone := by decide
/-- R30, R83: the wait steps, from STATE and TEXP = 1; and the codes that are not reached. -/
theorem test_decode_wait :
    selectStep 4 false false true = .ok .stepWait1 ∧ selectStep 6 false false true = .ok .stepWait2 ∧
    selectStep 8 false false true = .ok .stepWait3 ∧ selectStep 4 false false false = .error .blockHolds ∧
    selectStep 10 false false false = .ok (.stepRsvd 10) ∧ selectStep 15 false false false = .ok (.stepRsvd 15) := by decide
/-- R80: the control step's fields in its byte. -/
theorem test_decode_controlStep :
    decode ⟨.controlStep, 0, [0b00110011]⟩ = .ok .stepClr1Done ∧ decode ⟨.controlStep, 0, [0b01001000]⟩ = .ok .stepWait3 ∧
    decode ⟨.controlStep, 0, [0b00010011]⟩ = .error .blockHolds := by decide
/-- R86, bit by bit. -/
theorem test_decode_transactions :
    decode ⟨.busWriteRead, 2, [0b00011100]⟩ = .ok .txRdctrl ∧
    decode ⟨.busWrite, 3, [0b00011100, 0b00111100]⟩ = .ok (.txClr1 0b0111100) ∧
    decode ⟨.busWrite, 5, [0b00011100, 0b10111100]⟩ = .ok (.txSet 0b0111100) ∧
    decode ⟨.busWrite, 7, [0b00011100, 0b00111100]⟩ = .ok (.txClr2 0b0111100) ∧
    decode ⟨.busWriteRead, 9, [0b10011001]⟩ = .ok .txRdres ∧
    decode ⟨.busWrite, 5, [0b00011100, 0b00111100]⟩ = .error .notATransaction := by decide
/-- R86: TX_CFG is the register select 0x00 and 106 bytes. -/
theorem test_decode_txCfg :
    decode ⟨.busWrite, 1, 0x00 :: List.replicate 106 0xFF⟩ = .ok (.txCfg (List.replicate 106 0xFF)) ∧
    decode ⟨.busWrite, 1, 0x00 :: List.replicate 105 0xFF⟩ = .error .notATransaction := by decide
/-- The opcode table's numbers (log 6). -/
theorem test_decode_tableWords :
    decodeTableWord 32 1 = some .cmdConfigure ∧ decodeTableWord 8 3 = some .stepClr1Issue ∧
    decodeTableWord 8 4 = some .stepWait1 ∧ decodeTableWord 8 0xA8 = some (.hrd 0xA8) ∧
    decodeTableWord 8 0x99 = some .txRdres ∧ decodeTableWord 16 0x1CBC = some (.txSet 0x3C) := by decide

/-! ### Host program lines (R92, R93) -/

/-- P1's encodings. -/
theorem test_program_lines :
    (HostLine.wr 0x00 10000000).encoded.bytes = [0x00, 0x80, 0x96, 0x98, 0x00] ∧
    (HostLine.cmd .configure).encoded.bytes = [0x06, 0x01, 0x00, 0x00, 0x00] ∧ (HostLine.rd 0x10).encoded.bytes = [0x10] := by
  decide

/-! ### The calculator (95, L2.1 to L2.3) -/

/-- FB-1, FB-4, FB-5, FB-6, FB-7, FB-9. -/
theorem test_fbdiv :
    fbdiv 10000000 2700000000 = 0x0000010E00000000 ∧ fbdiv 30000000 2500000000 = 0x0000005355555555 ∧
    fbdiv 27000000 2600000000 = 0x000000604BDA12F6 ∧ fbdiv 1 0xFFFFFFFF = 0xFFFFFFFF00000000 ∧
    fbdiv 0xFFFFFFFF 1 = 1 ∧ fbdiv 0x80000001 0x80000002 = 0x0000000100000001 := by decide
/-- FB-1, FB-4, FB-7, FB-9: the order reads all 32 fraction bits. -/
theorem test_sdsel :
    sdsel 0x0000010E00000000 = 0 ∧ sdsel 0x0000005355555555 = 3 ∧ sdsel 1 = 3 ∧ sdsel 0x0000000100000001 = 3 := by decide
/-- ODIV-1, ODIV-2, ODIV-4, ODIV-10, ODIV-11. -/
theorem test_odiv :
    odiv 2700000000 40000000 = 0x00000021C0000000 ∧ odiv 2700000000 100000000 = 0x0000000D80000000 ∧
    odiv 2700000000 33333333 = 0x00000028800006CB ∧ odiv 1 0xFFFFFFFF = 0 ∧ odiv 0xFFFFFFFF 1 = 0x7FFFFFFF80000000 := by
  decide
/-- DCHK-3, DCHK-7, DCHK-8, DCHK-10. -/
theorem test_dchk :
    dchk ⟨10000000, 0, 40000000, 100000000, 1000000, 33333333⟩ = some 1 ∧
    dchk ⟨10000000, 2700000000, 40000000, 100000000, 1000000, 0⟩ = some 5 ∧
    dchk ⟨0, 2700000000, 40000000, 100000000, 0, 0⟩ = some 0 ∧ dchk ⟨1, 1, 1, 1, 1, 1⟩ = none := by decide

/-! ### The image (95, L2.4) -/

/-- The test template and test flags of 95, with the inputs' plan. -/
def testConfig : Config :=
  { chip with template := fun _ => 0x00, flags := ⟨false, false, false, false, false⟩ }
/-- PACK-2's template and flags. -/
def testConfig2 : Config :=
  { chip with template := fun _ => 0xFF, flags := ⟨true, false, true, false, true⟩ }
/-- The inputs of PACK-1. -/
def pack1 : Request := ⟨10000000, 2700000000, 40000000, 100000000, 1000000, 33333333⟩

/-- PACK-1, all 107 bytes. -/
theorem test_pack1 : packBytes testConfig pack1.plan =
    [0, 0, 0, 0, 0, 0, 0, 0, 0, 0, 0, 0, 0, 0, 0, 0] ++ [0, 0, 0, 0, 0, 0, 0, 0, 0x10, 0xE0, 0, 0, 0, 0, 0, 0] ++
    [0, 0, 0, 0xC0, 0, 0, 0, 0, 0, 0, 0, 0, 0, 0, 0x02, 0x10] ++ [0, 0, 0, 0x80, 0, 0, 0, 0, 0, 0, 0, 0, 0, 0, 0, 0xD0] ++
    [0, 0, 0, 0, 0, 0, 0, 0, 0, 0, 0, 0, 0, 0, 0x54, 0x60] ++ [0, 0, 0, 0x80, 0, 0x06, 0xC8, 0, 0, 0, 0, 0, 0, 0, 0x02, 0x80] ++
    [0, 0, 0, 0, 0, 0, 0, 0, 0, 0, 0] := by decide
/-- PACK-2: registers 0x10, 0x18, 0x1C and channel 4. -/
theorem test_pack2 :
    packRegister testConfig2 pack1.plan 0x10 = 0x7D ∧ packRegister testConfig2 pack1.plan 0x1C = 0xFF ∧
    packRegister testConfig2 pack1.plan 0x18 = 0xE0 ∧
    (List.range 15).map (fun k => packRegister testConfig2 pack1.plan (0x51 + k)) =
      [0xFF, 0x80, 0x00, 0x06, 0xC8, 0xFF, 0xFF, 0xFF, 0xFF, 0xFF, 0xFF, 0xFF, 0x02, 0x80, 0xFF] := by decide
/-- PACK-3: all five flags. -/
theorem test_pack3 :
    flagsRegister { testConfig with flags := ⟨true, true, true, true, true⟩ } = 0xC3 ∧
    calControlRegister { testConfig with flags := ⟨true, true, true, true, true⟩ } = 0x80 := by decide
/-- FB-7 and FB-9: Order3 beside a zero packed fraction (R116). -/
theorem test_pack_order3 :
    packRegister testConfig (Request.plan ⟨0x80000001, 0x80000002, 1, 1, 1, 1⟩) 0x18 = 0x13 ∧
    packRegister testConfig (Request.plan ⟨0x80000001, 0x80000002, 1, 1, 1, 1⟩) 0x1B = 0x00 := by decide

/-! ### The image buffer -/

/-- R60: a write keeps the canonical form, and a byte 0x00 lists nothing. -/
theorem test_memory_write :
    Memory.write 3 0x00 (Memory.write 3 0x10 [(5, 0xE0)]) = [(5, 0xE0)] ∧
    Memory.read 3 (Memory.write 3 0x10 [(5, 0xE0)]) = 0x10 ∧ Memory.wf (Memory.write 3 0x10 [(5, 0xE0)]) = true := by decide
theorem test_reset_memory_wf : Memory.wf State.reset.image = true := by decide

/-! ### One step on a small state -/

/-- The next state of an answer. -/
def nextOf : Answer → Option State
  | .next s => some s
  | .fault _ => none
  | .refused _ => none

/-- Whether an answer is a refusal, and which. -/
def refusalOf : Answer → Option Refusal
  | .refused r => some r
  | .next _ => none
  | .fault _ => none

/-- Six written inputs (95, L2.1). -/
def withInputs (r : Request) : State :=
  { State.reset with refHz := .of r.ref, vcoHz := .of r.vco, out1Hz := .of r.out1, out2Hz := .of r.out2
                     out3Hz := .of r.out3, out4Hz := .of r.out4 }
/-- A running CALIBRATE in state `st` with PLAN_VALID = 1, the byte `v` read, and the outstanding transaction's response. -/
def calibrating (st : BitVec 4) (v : Byte) (txp : Bool) (r : Resp) : State :=
  { State.reset with ctl := st, calV := .of v, txp := txp, resp := r
                     status := { Status.reset with lastCmd := true, planValid := true } }
/-- A running CONFIGURE (CFG-1, CFG-2). -/
def configuring (txp : Bool) (r : Resp) : State :=
  { State.reset with ctl := 1, txp := txp, resp := r, status := { Status.reset with planValid := true } }
/-- STATUS after an answer. -/
def statusAfter (a : Answer) : Option Word := (nextOf a).map State.statusWord

/-- HOST-3, HOST-4. -/
theorem test_hwrIn :
    ((nextOf (exec (.hwrIn 0x01 2700000000) State.reset)).bind (fun s => nextOf (exec (.hrd 0x01) s))).map (·.hostData)
      = some 0xA0EEBB00 := by decide
/-- HOST-13: allowed while busy. -/
theorem test_hwrIn_busy : (nextOf (exec (.hwrIn 0x00 0) (configuring true .empty))).map (·.refHz) = some (.of 0) := by decide
/-- CMD-5, CMD-6: the order of R256. -/
theorem test_hwrCmd_checks :
    refusalOf (exec (.hwrCmd 5) (configuring true .empty)) = some (.access (.cmdReservedBits 5)) ∧
    refusalOf (exec (.hwrCmd 0) (calibrating 4 0 false .empty)) = some .busy := by decide
/-- HOST-1 and HOST-2. -/
theorem test_hrd_reset :
    (nextOf (exec (.hrd 0x07) State.reset)).map (fun s => (s.hostData, s.unwrittenRead)) = some (0, none) ∧
    (nextOf (exec (.hrd 0x08) State.reset)).map (·.unwrittenRead) = some (some (.hostRead 0x08)) := by decide
/-- HOST-9, HOST-10: the halves of a divider. -/
theorem test_hrd_halves :
    (nextOf (exec (.hrd 0x09) { State.reset with fb := .of 0x0000010E00000000 })).map (·.hostData) = some 0x0000010E ∧
    (nextOf (exec (.hrd 0x0A) { State.reset with od1 := .of 0x00000021C0000000 })).map (·.hostData) = some 0xC0000000 := by
  decide
/-- CMD-1. -/
theorem test_cmdNop : nextOf (exec .cmdNop State.reset) = some State.reset := by decide
/-- DCHK-7, DCHK-8. -/
theorem test_cmdConfigure_zero :
    statusAfter (exec .cmdConfigure (withInputs ⟨10000000, 2700000000, 40000000, 100000000, 1000000, 0⟩)) = some 0x00000506 ∧
    statusAfter (exec .cmdConfigure (withInputs ⟨0, 2700000000, 40000000, 100000000, 0, 0⟩)) = some 0x00000006 := by decide
/-- DCHK-1, CMD-2, P1. -/
theorem test_cmdConfigure_plan :
    statusAfter (exec .cmdConfigure (withInputs pack1)) = some 0x00005001 ∧
    (nextOf (exec .cmdConfigure (withInputs pack1))).map (fun s => (s.fb.val, s.od4.val)) =
      some (0x0000010E00000000, 0x00000028800006CB) := by decide
/-- CMD-3. -/
theorem test_cmdCalibrate : statusAfter (exec .cmdCalibrate State.reset) = some 0x00008011 := by decide
/-- CMD-9: the report of the last error is cleared. -/
theorem test_cmdCalibrate_clears :
    statusAfter (exec .cmdCalibrate { State.reset with status := ⟨2, true, 3, 0, true, false, true⟩ }) = some 0x00008011 := by
  decide
/-- CMD-4. -/
theorem test_cmdRsvd : refusalOf (exec .cmdRsvd State.reset) = some .reservedCode := by decide
/-- R190: the request is 107 bytes, the first 0x00. -/
theorem test_stepCfgIssue :
    (nextOf (exec .stepCfgIssue { configuring false .empty with image := [(24, 0x10), (25, 0xE0)] })).map
      (fun s => (s.txreq.wbytes.length, s.txreq.wbytes.take 1, (s.txreq.wbytes.drop 24).take 3, s.txp)) =
      some (107, [0x00], [0x10, 0xE0, 0x00], true) := by decide
/-- CFG-1, CFG-2. -/
theorem test_stepCfgDone :
    statusAfter (exec .stepCfgDone (configuring true (.ok []))) = some 0x00001002 ∧
    statusAfter (exec .stepCfgDone (configuring true .fail)) = some 0x00001004 := by decide
/-- R211. -/
theorem test_stepRdctrlIssue :
    (nextOf (exec .stepRdctrlIssue (calibrating 2 0 false .empty))).map (·.txreq) = some ⟨.writeRead, 0x6A, [0x1C]⟩ := by decide
/-- P2 step 1, CAL-2. -/
theorem test_stepRdctrlDone :
    (nextOf (exec .stepRdctrlDone (calibrating 2 0 true (.ok [0x3C])))).map (fun s => (s.calV, s.ctl)) = some (.of 0x3C, 3) ∧
    statusAfter (exec .stepRdctrlDone (calibrating 2 0 true .fail)) = some 0x00001034 := by decide
/-- CAL-P2. -/
theorem test_stepClr1Issue :
    (nextOf (exec .stepClr1Issue (calibrating 3 0xFF false .empty))).map (·.txreq) = some ⟨.write, 0x6A, [0x1C, 0x7F]⟩ := by
  decide
/-- P2 step 2, CAL-3. -/
theorem test_stepClr1Done :
    statusAfter (exec .stepClr1Done (calibrating 3 0x3C true (.ok []))) = some 0x00011011 ∧
    statusAfter (exec .stepClr1Done (calibrating 3 0x3C true .fail)) = some 0x00001854 := by decide
/-- L2.8: 4 to 5, 6 to 7, 8 to 9. -/
theorem test_stepWaits :
    (nextOf (exec .stepWait1 { calibrating 4 0 false .empty with texp := true })).map (fun s => (s.ctl, s.texp)) = some (5, false) ∧
    (nextOf (exec .stepWait2 { calibrating 6 0 false .empty with texp := true })).map (·.ctl) = some 7 ∧
    (nextOf (exec .stepWait3 { calibrating 8 0 false .empty with texp := true })).map (·.ctl) = some 9 := by decide
/-- CAL-P1. -/
theorem test_stepSetIssue :
    (nextOf (exec .stepSetIssue (calibrating 5 0x3C false .empty))).map (·.txreq) = some ⟨.write, 0x6A, [0x1C, 0xBC]⟩ := by
  decide
/-- P2 step 3, CAL-4. -/
theorem test_stepSetDone :
    statusAfter (exec .stepSetDone (calibrating 5 0x3C true (.ok []))) = some 0x00019011 ∧
    statusAfter (exec .stepSetDone (calibrating 5 0x3C true .fail)) = some 0x00001874 := by decide
/-- CAL-P3. -/
theorem test_stepClr2Issue :
    (nextOf (exec .stepClr2Issue (calibrating 7 0x80 false .empty))).map (·.txreq) = some ⟨.write, 0x6A, [0x1C, 0x00]⟩ := by
  decide
/-- P2 step 4, CAL-5. -/
theorem test_stepClr2Done :
    statusAfter (exec .stepClr2Done (calibrating 7 0x3C true (.ok []))) = some 0x00021011 ∧
    statusAfter (exec .stepClr2Done (calibrating 7 0x3C true .fail)) = some 0x00001894 := by decide
/-- R230. -/
theorem test_stepRdresIssue :
    (nextOf (exec .stepRdresIssue (calibrating 9 0 false .empty))).map (·.txreq) = some ⟨.writeRead, 0x6A, [0x99]⟩ := by decide
/-- CAL-1, CAL-6. -/
theorem test_stepRdresDone :
    (nextOf (exec .stepRdresDone (calibrating 9 0x3C true (.ok [0xA5])))).map (fun s => (s.calS, s.vcoBand, s.statusWord)) =
      some (.of 0xA5, .of 0x14, 0x00003012) ∧
    statusAfter (exec .stepRdresDone (calibrating 9 0x3C true .fail)) = some 0x000010B4 := by decide
/-- CAL-P1 on the bus; other `v` bits are not the block's (R68). -/
theorem test_txSet :
    (nextOf (exec (.txSet 0x3C) (calibrating 5 0x3C false .empty))).map (·.txreq.wbytes) = some [0x1C, 0xBC] ∧
    refusalOf (exec (.txSet 0x3D) (calibrating 5 0x3C false .empty)) = some .notEnabled := by decide
/-- ERR-1: a reset while a transaction is outstanding. -/
theorem test_reset_turn :
    (nextOf (step { calibrating 5 0x3C true .empty with agenda := [.reset] })).map (fun s => (s.ctl, s.txp, s.calV, s.statusWord)) =
      some (0, false, .unwritten 8, 0) := by decide
/-- ERR-4 and L2.8: nothing moves the block while no agent does. -/
theorem test_holds :
    (nextOf (step (calibrating 3 0x3C true .empty))).map (·.ctl) = some 3 ∧
    (nextOf (step (calibrating 4 0x3C false .empty))).map (·.ctl) = some 4 := by decide
/-- L2.8: time's turn. -/
theorem test_time :
    (nextOf (step { calibrating 4 0x3C false .empty with agenda := [.time] })).map (·.texp) = some true := by decide
/-- R193: the answer to a read has one byte, to a write none. -/
theorem test_transport :
    (nextOf (step { calibrating 9 0 true .empty with txreq := rdresRequest, agenda := [.transport (.ok 0xA5)] })).map (·.resp) =
      some (.ok [0xA5]) ∧
    (nextOf (step { configuring true .empty with txreq := busWrite [0], agenda := [.transport (.ok 0xA5)] })).map (·.resp) =
      some (.ok []) := by decide
/-- The host's question: a table word runs as the first instruction after reset. -/
theorem test_withFetchWord :
    (nextOf (step (State.reset.withFetchWord 32 2))).map (·.ctl) = some 2 ∧
    (nextOf (step (State.reset.withFetchWord 8 5))).map (·.txreq) = some ⟨.write, 0x6A, [0x1C, 0x80]⟩ ∧
    (nextOf (step (State.reset.withFetchWord 16 0x1C3C))).map (·.txreq.wbytes) = some [0x1C, 0x3C] := by decide

/-! ### Witnesses: the hypotheses of the obligations are met -/

/-- A CALIBRATE accepted right after reset. -/
def running : State := { State.reset with ctl := 2, status := { Status.reset with lastCmd := true } }
/-- A state whose next turn is the given one. -/
def facing (s : State) (turn : Turn) : State := { s with agenda := [turn] }
/-- The state of a reserved code. -/
def stuck (code : BitVec 4) : State := { State.reset with ctl := code }
/-- The wait state `st` with TEXP as given. -/
def waiting (st : BitVec 4) (texp : Bool) : State := { calibrating st 0x3C false .empty with texp := texp }

theorem running_inv : running.Inv := by
  refine ⟨⟨?_, ?_, ?_, ?_, ?_, ?_⟩, ⟨?_, ?_, ?_, ?_, ?_, ?_, ?_, ?_, ?_, ?_, ?_⟩, ⟨?_, ?_, ?_, ?_, ?_, ?_, ?_, ?_, ?_, ?_⟩⟩ <;>
    first
    | rfl
    | simp [running, State.reset, State.busy, Status.reset, Reg.unwritten]

theorem witness_ResetPutsEveryRegisterAtItsResetValue :
    ((facing State.reset .time).ctl = 0 ∧ (facing State.reset .time).txp = false ∧
      (facing State.reset .time).agenda = .time :: []) ∧
    (∃ t, exec (.hwrIn 0 1) State.reset = .next t) ∧ (∀ d, Instr.hwrIn 0 1 ≠ .hwrCmd d) ∧ Instr.hwrIn 0 1 ≠ .cmdNop ∧
    Instr.hwrIn 0 1 ≠ .cmdConfigure ∧ Instr.hwrIn 0 1 ≠ .cmdCalibrate :=
  ⟨by decide, ⟨_, rfl⟩, by simp, by decide, by decide, by decide⟩
theorem witness_ResetTurnAbandonsWhateverRuns :
    (facing (stuck 15) .reset).agenda = .reset :: [] ∧ (facing (calibrating 5 0x3C true .empty) .reset).agenda = .reset :: [] := by
  decide
theorem witness_EveryStepKeepsTheInvariant : running.Inv ∧ ∃ t, step running = .next t := ⟨running_inv, _, rfl⟩
theorem witness_DecodeOfEncodeGivesTheInstruction :
    (Instr.hwrIn 0x05 0xFFFFFFFF).wellFormed = true ∧ (Instr.hrd 0xAA).wellFormed = true ∧
    (Instr.stepRsvd 15).wellFormed = true ∧ (Instr.txCfg (List.replicate 106 0xFF)).wellFormed = true ∧
    (Instr.txSet 0x7F).wellFormed = true := by decide
theorem witness_DecodedFormsEncodeBack :
    decode ⟨.hostRead, 0, [0xAA]⟩ = .ok (.hrd 0xAA) ∧ Form.hostRead ≠ .controlStep ∧
    decode ⟨.busWrite, 7, [0x1C, 0x7F]⟩ = .ok (.txClr2 0x7F) := by decide
theorem witness_StepRunsThePresentedInstruction :
    (facing (calibrating 9 0 false .empty) (.present ⟨.hostRead, 0, [0x07]⟩)).ctl.toNat ≤ 9 ∧
    decode ⟨.hostRead, 0, [0x07]⟩ = .ok (.hrd 0x07) := by decide
theorem witness_BlockStepIsSelectedByItsRegisters :
    (facing State.reset .block).ctl = 0 ∧ (running.agenda = [] ∧ ([] : List Turn) = []) ∧
    ((9, .stepRdresIssue, .stepRdresDone) ∈ transactionSteps ∧
      (facing (calibrating 9 0 true (.ok [1])) .block).ctl = 9 ∧ (facing (calibrating 9 0 true (.ok [1])) .block).txp = true ∧
      (facing (calibrating 9 0 true (.ok [1])) .block).resp ≠ .empty ∧ (calibrating 9 0 false .empty).txp = false ∧
      (calibrating 9 0 true .empty).resp = .empty) ∧
    ((8, .stepWait3, 9) ∈ waitSteps ∧ (waiting 8 true).ctl = 8 ∧ (waiting 8 true).texp = true ∧ (waiting 8 false).texp = false) := by
  decide
theorem witness_TableWordsRunAsTheNextStep :
    State.reset.ctl.toNat ≤ 9 ∧ decodeTableWord 32 2 = some .cmdCalibrate ∧ decodeTableWord 8 15 = some (.stepRsvd 15) ∧
    decodeTableWord 16 0x1CBC = some (.txSet 0x3C) := by decide
theorem witness_HostAccessesOutsideTheMapAreRefused :
    (facing State.reset (.present ⟨.hostWrite, 0, 0x07 :: wordBytes 5⟩)).agenda = .present ⟨.hostWrite, 0, 0x07 :: wordBytes 5⟩ :: [] ∧
    7 ≤ (0x07 : BitVec 8).toNat ∧ 7 ≤ (0xFF : BitVec 8).toNat ∧ (0x06 : BitVec 8).toNat = 6 ∧ 0x16 ≤ (0x16 : BitVec 8).toNat ∧
    (0x3F : BitVec 8).toNat ≤ 0x3F ∧ 0xAB ≤ (0xAB : BitVec 8).toNat ∧ 0xAB ≤ (0xFF : BitVec 8).toNat ∧ 4 ≤ (4 : Word).toNat := by
  decide
theorem witness_BusyLimitsOnlyCommandWrites :
    running.ctl ≠ 0 ∧ readableAddress 0x00 = true ∧ readableAddress 0x05 = true ∧ readableAddress 0x07 = true ∧
    readableAddress 0x15 = true ∧ readableAddress 0x40 = true ∧ readableAddress 0xAA = true ∧ inputAddress 0x00 = true ∧
    inputAddress 0x05 = true := by decide
theorem witness_NopChangesNothing : State.reset.ctl = 0 ∧ running.ctl ≠ 0 := by decide
theorem witness_ConfigureComputesThePlan :
    (withInputs pack1).ctl = 0 ∧ (withInputs pack1).inputsWritten = true ∧ Memory.wf (withInputs pack1).image = true ∧
    (withInputs pack1).refHz.val ≠ 0 ∧ (withInputs pack1).vcoHz.val ≠ 0 ∧ (withInputs pack1).out1Hz.val ≠ 0 ∧
    (withInputs pack1).out2Hz.val ≠ 0 ∧ (withInputs pack1).out3Hz.val ≠ 0 ∧ (withInputs pack1).out4Hz.val ≠ 0 := by decide
/-- The first and the last place. -/
theorem witness_ConfigureReportsTheFirstZeroInput :
    (let s := withInputs ⟨0, 1, 1, 1, 0, 0⟩
     s.ctl = 0 ∧ s.inputsWritten = true ∧
     [s.refHz.val, s.vcoHz.val, s.out1Hz.val, s.out2Hz.val, s.out3Hz.val, s.out4Hz.val][0]? = some 0) ∧
    (let s := withInputs ⟨1, 1, 1, 1, 1, 0⟩
     s.ctl = 0 ∧ s.inputsWritten = true ∧
     [s.refHz.val, s.vcoHz.val, s.out1Hz.val, s.out2Hz.val, s.out3Hz.val, s.out4Hz.val][5]? = some 0 ∧
     ∀ j, j < 5 → [s.refHz.val, s.vcoHz.val, s.out1Hz.val, s.out2Hz.val, s.out3Hz.val, s.out4Hz.val][j]? ≠ some 0) := by
  decide
theorem witness_ConfigureWithAnUnwrittenInputIsRecorded :
    State.reset.ctl = 0 ∧ State.reset.inputsWritten = false ∧ (withInputs ⟨0, 0, 0, 0, 0, 0⟩).inputsWritten = true ∧
    (withInputs ⟨0, 0, 0, 0, 0, 0⟩).request = State.reset.request ∧
    State.reset.sameButInputs (withInputs ⟨0, 0, 0, 0, 0, 0⟩) ∧
    ∃ t, exec .cmdConfigure (withInputs ⟨0, 0, 0, 0, 0, 0⟩) = .next t :=
  ⟨by decide, by decide, by decide, by decide, rfl, _, rfl⟩
theorem witness_CalibrateEntersTheSequence : State.reset.ctl = 0 := by decide
theorem witness_CommandsWhileBusyAreRefused : running.ctl ≠ 0 ∧ (3 : Word).toNat < 4 := by decide
theorem witness_ReservedCommandIsRefused : State.reset.ctl = 0 ∧ running.ctl ≠ 0 := by decide
theorem witness_CommandWordRunsItsRow : 4 ≤ (4 : Word).toNat ∧ (3 : Word).toNat < 4 ∧ running.ctl ≠ 0 := by decide
/-- One state for each of the six clauses. -/
theorem witness_IssueStepsSendTheirRequest :
    ((configuring false .empty).txp = false ∧ (configuring false .empty).ctl = 1) ∧
    ∀ st : BitVec 4, (calibrating st 0x3C false .empty).txp = false ∧ (calibrating st 0x3C false .empty).ctl = st := by decide
theorem witness_TransactionRowsSendTheirBytes :
    ((configuring false .empty).txp = false ∧ (configuring false .empty).ctl = 1 ∧
      (List.range 107).map (fun i => Memory.read i (configuring false .empty).image) = 0x00 :: List.replicate 106 0x00) ∧
    (∀ st : BitVec 4, (calibrating st 0xBC false .empty).txp = false ∧ (calibrating st 0xBC false .empty).ctl = st) ∧
    (0x3C : BitVec 7) = (calibrating 5 0xBC false .empty).calV.val.extractLsb' 0 7 ∧
    (0x3D : BitVec 7) ≠ (calibrating 5 0xBC false .empty).calV.val.extractLsb' 0 7 := by decide
theorem witness_CompleteStepsWithOk :
    ((configuring true (.ok [])).txp = true ∧ (configuring true (.ok [])).ctl = 1 ∧ (configuring true (.ok [])).resp = .ok []) ∧
    (∀ st : BitVec 4, (calibrating st 0x3C true (.ok [])).txp = true ∧ (calibrating st 0x3C true (.ok [])).ctl = st ∧
      (calibrating st 0x3C true (.ok [])).resp = .ok []) ∧
    ∀ st : BitVec 4, (calibrating st 0x3C true (.ok [0xA5])).txp = true ∧ (calibrating st 0x3C true (.ok [0xA5])).ctl = st ∧
      (calibrating st 0x3C true (.ok [0xA5])).resp = .ok [0xA5] := by decide
theorem witness_CompleteStepsWithFail :
    ((configuring true .fail).txp = true ∧ (configuring true .fail).resp = .fail ∧ (configuring true .fail).ctl = 1) ∧
    ∀ st : BitVec 4, (calibrating st 0x3C true .fail).txp = true ∧ (calibrating st 0x3C true .fail).resp = .fail ∧
      (calibrating st 0x3C true .fail).ctl = st := by decide
theorem witness_WaitStepsLeaveWhenTheDelayHasEnded :
    (4, .stepWait1, 5) ∈ waitSteps ∧ (6, .stepWait2, 7) ∈ waitSteps ∧ (8, .stepWait3, 9) ∈ waitSteps ∧
    ∀ (st : BitVec 4) (b : Bool), (waiting st b).ctl = st ∧ (waiting st b).texp = b := by decide
theorem witness_TransportAnswersTheOutstandingRequest :
    (let s := facing { calibrating 9 0 true .empty with txreq := rdresRequest } (.transport (.ok 0xA5))
     s.agenda = .transport (.ok 0xA5) :: [] ∧ s.ctl.toNat ≤ 9 ∧ s.txp = true ∧ s.resp = .empty ∧ s.txreq.kind = .writeRead) ∧
    (let s := facing { configuring true .empty with txreq := busWrite [0] } (.transport (.ok 0xA5))
     s.ctl.toNat ≤ 9 ∧ s.txp = true ∧ s.resp = .empty ∧ s.txreq.kind = .write) ∧
    ¬ (running.txp = true ∧ running.resp = .empty) := by decide
theorem witness_TimeEndsTheSettleDelay :
    (facing (waiting 8 false) .time).agenda = .time :: [] ∧ (facing (waiting 8 false) .time).ctl.toNat ≤ 9 ∧
    waitState (waiting 8 false).ctl = true ∧ (waiting 8 false).texp = false ∧
    ¬ (waitState running.ctl = true ∧ running.texp = false) := by decide
theorem witness_ReservedStateIsStuck :
    (10 ≤ (stuck 10).ctl.toNat ∧ (stuck 10).agenda.head? ≠ some .reset) ∧ 10 ≤ (stuck 15).ctl.toNat ∧
    ∃ t, step running = .next t := ⟨by decide, by decide, _, rfl⟩
/-- STEP_RSVD presented while STATE holds no reserved code (log 19). -/
theorem test_presented_stepRsvd :
    running.ctl = 2 ∧
    step (facing running (.present (encode (.stepRsvd 12)))) = .fault (.reservedState 12) := ⟨rfl, rfl⟩
theorem witness_ControlStateFollowsTheTable :
    running.agenda.head? ≠ some .reset ∧ ∃ t, step running = .next t := ⟨by decide, _, rfl⟩
/-- A step that issues, and one with the request outstanding. -/
theorem witness_OnlyTheSixTransactionsAreIssued :
    (∃ t, step running = .next t ∧ t.txp = true ∧ running.txp = false) ∧
    ∃ t, step (calibrating 3 0x3C true .empty) = .next t ∧ t.txp = true ∧ (calibrating 3 0x3C true .empty).txp = true :=
  ⟨⟨_, rfl, rfl, rfl⟩, ⟨_, rfl, rfl, rfl⟩⟩
/-- A TransportError and a DomainError. -/
theorem witness_ErrorsChangeOnlyTheirReport :
    (∃ t, exec .stepSetDone (calibrating 5 0x3C true .fail) = .next t ∧ t.status ≠ (calibrating 5 0x3C true .fail).status ∧
      t.status.result = 2) ∧
    ∃ t, exec .cmdConfigure (withInputs ⟨0, 1, 1, 1, 1, 1⟩) = .next t ∧ t.status ≠ (withInputs ⟨0, 1, 1, 1, 1, 1⟩).status ∧
      t.status.result = 3 := ⟨⟨_, rfl, by decide, rfl⟩, ⟨_, rfl, by decide, rfl⟩⟩
theorem witness_ResultsChangeOnlyWhenAPlanIsMade :
    ∃ t, step running = .next t ∧ running.agenda.head? ≠ some .reset ∧ ¬ (running.ctl = 0 ∧ t.ctl = 1) :=
  ⟨_, rfl, by decide, by decide⟩
theorem witness_CalibrationRegistersChangeOnlyInTheirSteps :
    (∃ t, step (calibrating 2 0 true (.ok [0x3C])) = .next t ∧ t.calV = .of 0x3C) ∧
    (∃ t, step (calibrating 9 0 true (.ok [0xA5])) = .next t ∧ t.vcoBand = .of 0x14) ∧
    (calibrating 2 0 true (.ok [0x3C])).agenda.head? ≠ some .reset := ⟨⟨_, rfl, rfl⟩, ⟨_, rfl, rfl⟩, by decide⟩
theorem witness_RunningCommandIgnoresTheInputs :
    running.sameButInputs { running with refHz := .of 7 } ∧ running.noHostTurn = true ∧ ∃ t, step running = .next t :=
  ⟨rfl, rfl, _, rfl⟩
/-- A wait state in which nothing ends, and one in which time ends the delay. -/
theorem witness_SettleDelaysAreKept :
    (∃ t, step (waiting 4 false) = .next t ∧ (waiting 4 false).agenda.head? ≠ some .reset ∧
      waitState (waiting 4 false).ctl = true ∧ (waiting 4 false).txp = false ∧ (waiting 4 false).texp = false) ∧
    ∃ t, step (facing (waiting 4 false) .time) = .next t ∧ (facing (waiting 4 false) .time).agenda.head? ≠ some .reset ∧
      (facing (waiting 4 false) .time).texp = false ∧ t.texp = true :=
  ⟨⟨_, rfl, by decide, rfl, rfl, rfl⟩, ⟨_, rfl, by decide, rfl, rfl⟩⟩
theorem witness_RecordedFaultIsNeverCleared :
    ∃ t, step { facing State.reset .reset with unwrittenRead := some .configure } = .next t ∧
      ({ facing State.reset .reset with unwrittenRead := some .configure } : State).unwrittenRead = some .configure :=
  ⟨_, rfl, rfl⟩
/-- A CALIBRATE whose first eleven rounds are answered with OK, and whose last answer is `d`. -/
def calibration (d : Draw) : State :=
  { running with agenda :=
      (List.replicate 11 (Draw.ok 0xA5)).flatMap (fun d => [.block, .transport d, .time]) ++ [.block, .transport d, .block] }
/-- A failure at step 1, a failure at step 5, and an end with OK. -/
theorem witness_CalibrationIssuesTheFiveTransactions :
    (let s := { running with agenda := [.block, .transport .fail] }
     s.ctl = 2 ∧ s.txp = false ∧ ∃ issued t u, busyRun 2 s = some (issued, t) ∧ step t = .next u ∧ u.busy = false ∧
       t.agenda.head? ≠ some .reset ∧ u.status.result = 2 ∧ u.status.step = 1) ∧
    ((calibration .fail).ctl = 2 ∧ (calibration .fail).txp = false ∧ ∃ issued t u,
       busyRun 35 (calibration .fail) = some (issued, t) ∧ step t = .next u ∧ u.busy = false ∧
       t.agenda.head? ≠ some .reset ∧ u.status.result = 2 ∧ u.status.step = 5) ∧
    ((calibration (.ok 0xA5)).ctl = 2 ∧ (calibration (.ok 0xA5)).txp = false ∧ ∃ issued t u,
       busyRun 35 (calibration (.ok 0xA5)) = some (issued, t) ∧ step t = .next u ∧ u.busy = false ∧
       t.agenda.head? ≠ some .reset ∧ u.status.result = 1) :=
  ⟨⟨rfl, rfl, _, _, _, rfl, rfl, rfl, by decide, rfl, rfl⟩, ⟨rfl, rfl, _, _, _, rfl, rfl, rfl, by decide, rfl, rfl⟩,
   ⟨rfl, rfl, _, _, _, rfl, rfl, rfl, by decide, rfl⟩⟩
theorem witness_ConfigurationIssuesOneTransaction :
    (let s := { configuring false .empty with agenda := [.block, .transport (.ok 0)] }
     s.ctl = 1 ∧ s.txp = false ∧ ∃ issued t u, busyRun 2 s = some (issued, t) ∧ step t = .next u ∧ u.busy = false ∧
       t.agenda.head? ≠ some .reset ∧ u.status.result = 1) ∧
    (let s := { configuring false .empty with agenda := [.block, .transport .fail] }
     s.ctl = 1 ∧ s.txp = false ∧ ∃ issued t u, busyRun 2 s = some (issued, t) ∧ step t = .next u ∧ u.busy = false ∧
       t.agenda.head? ≠ some .reset ∧ u.status.result = 2) :=
  ⟨⟨rfl, rfl, _, _, _, rfl, rfl, rfl, by decide, rfl⟩, ⟨rfl, rfl, _, _, _, rfl, rfl, rfl, by decide, rfl⟩⟩
theorem witness_AnsweredCommandEnds :
    ∃ (s : State) (draws : List Draw), s.Inv ∧ s.busy = true ∧ 13 ≤ draws.length ∧
      s.agenda = draws.flatMap (fun d => [.block, .transport d, .time]) := by
  refine ⟨{ running with agenda := (List.replicate 13 (Draw.ok 0xA5)).flatMap (fun d => [.block, .transport d, .time]) },
    List.replicate 13 (.ok 0xA5), ?_, rfl, by decide, rfl⟩
  obtain ⟨⟨⟩, ⟨⟩, ⟨⟩⟩ := running_inv
  constructor <;> constructor <;> assumption
/-- All thirteen rounds are needed and enough. -/
theorem test_calibrate_ends :
    (nextOf (Host.Core.run Sys2Proof.core 39 { running with
        agenda := (List.replicate 13 (Draw.ok 0xA5)).flatMap (fun d => [.block, .transport d, .time]) })).map State.statusWord
      = some 0x00002012 := by decide
theorem witness_DividersAreTruncatedQuotients : dchk pack1 = none := by decide
theorem witness_FeedbackDividerRangeAndAccuracy : dchk ⟨1, 0xFFFFFFFF, 1, 1, 1, 1⟩ = none := by decide
theorem witness_OutputDividerRangeAndAccuracy : (0xFFFFFFFF : Word) ≠ 0 ∧ (1 : Word) ≠ 0 := by decide
/-- An exact multiple and no multiple. -/
theorem witness_SigmaDeltaOffIffExactMultiple :
    dchk pack1 = none ∧ dchk ⟨0xFFFFFFFF, 1, 1, 1, 1, 1⟩ = none := by decide
/-- The ends of each template range. -/
theorem witness_ImageRegistersFollowTheMap :
    (0x0F ≤ 0x0F) ∧ (0x11 ≤ 0x11 ∧ 0x16 ≤ 0x16) ∧ (0x1D ≤ 0x1D ∧ 0x20 ≤ 0x20) ∧ (0x60 ≤ 0x60 ∧ 0x69 ≤ 0x69) := by decide
theorem witness_ImageChannelsFollowTheMap :
    (0x21, pack1.plan.od1) ∈ [(0x21, pack1.plan.od1), (0x31, pack1.plan.od2), (0x41, pack1.plan.od3), (0x51, pack1.plan.od4)] ∧
    (0x51, pack1.plan.od4) ∈ [(0x21, pack1.plan.od1), (0x31, pack1.plan.od2), (0x41, pack1.plan.od3), (0x51, pack1.plan.od4)] ∧
    (0x51 + 0x5 ≤ 0x56 ∧ 0x5C ≤ 0x51 + 0xB) := ⟨List.mem_cons_self, by simp, by decide⟩
theorem witness_ImageDependsOnTheInputsAlone :
    (withInputs pack1).request = ({ withInputs pack1 with image := [(1, 0xFF)] } : State).request ∧
    dchk (withInputs pack1).request = none ∧ Memory.wf (withInputs pack1).image = true ∧
    Memory.wf ({ withInputs pack1 with image := [(1, 0xFF)] } : State).image = true ∧
    (∃ t, exec .cmdConfigure (withInputs pack1) = .next t) ∧
    ∃ t, exec .cmdConfigure { withInputs pack1 with image := [(1, 0xFF)] } = .next t :=
  ⟨by decide, by decide, by decide, by decide, ⟨_, rfl⟩, ⟨_, rfl⟩⟩
theorem witness_ImageIgnoresTheDroppedBits :
    let p : Plan := ⟨0xFFFFF0AAAAAAAA00, 3, 0xFFFFF00000000003, 0, 0, 0⟩
    let q : Plan := ⟨0x00000000AAAAAAFF, 3, 0, 1, 2, 0xFFFFF00000000000⟩
    p.sd = q.sd ∧ p.od1.extractLsb' 2 42 = q.od1.extractLsb' 2 42 ∧ p.od2.extractLsb' 2 42 = q.od2.extractLsb' 2 42 ∧
    p.od3.extractLsb' 2 42 = q.od3.extractLsb' 2 42 ∧ p.od4.extractLsb' 2 42 = q.od4.extractLsb' 2 42 ∧
    p.fb.extractLsb' 8 36 ≠ q.fb.extractLsb' 8 36 := by decide

end Sys2Proof.Tests
end

section
/-! The state's statements: which host accesses the map refuses (R37), and the reserved codes of STATE (R31). -/

namespace Sys2Proof.Machine

/-! ### A presented form, decoded and run -/

/-- While STATE holds no reserved code, a presented form is what the machine fetches. -/
theorem fetch_present {s : State} {e : Encoded} {rest : List Turn} (ha : s.agenda = .present e :: rest)
    (hc : s.ctl.toNat ≤ 9) : s.fetch = .instr e { s with agenda := rest } := by
  simp only [State.fetch, ha, show ¬ 10 ≤ s.ctl.toNat by omega, if_false]

theorem step_present_ok {s : State} {e : Encoded} {i : Instr} {rest : List Turn}
    (ha : s.agenda = .present e :: rest) (hc : s.ctl.toNat ≤ 9) (hd : decode e = .ok i) :
    step s = exec i { s with agenda := rest } := by
  simp only [step, fetch_present ha hc, hd]

theorem step_present_error {s : State} {e : Encoded} {why : DecodeError} {rest : List Turn}
    (ha : s.agenda = .present e :: rest) (hc : s.ctl.toNat ≤ 9) (hd : decode e = .error why) :
    step s = rejected why { s with agenda := rest } := by
  simp only [step, fetch_present ha hc, hd]

/-! ### The host's address map -/

/-- A word's four bytes, least significant first, give the word back (log 5). -/
theorem wordOfBytes_wordBytes (d : Word) :
    wordOfBytes (d.extractLsb' 0 8) (d.extractLsb' 8 8) (d.extractLsb' 16 8) (d.extractLsb' 24 8) = d := by
  simp only [wordOfBytes]
  rw [BitVec.extractLsb'_append_extractLsb'_eq_extractLsb' (by decide),
    BitVec.extractLsb'_append_extractLsb'_eq_extractLsb' (by decide),
    BitVec.extractLsb'_append_extractLsb'_eq_extractLsb' (by decide)]
  exact BitVec.extractLsb'_eq_self

theorem decodeHostWrite_cmd (d : Word) : decodeHostWrite (0x06 :: wordBytes d) = .ok (.hwrCmd d) := by
  simp only [wordBytes, decodeHostWrite, wordOfBytes_wordBytes, show inputAddress 0x06 = false from rfl,
    Bool.false_eq_true, if_false, if_true]

/-- Above CMD no address takes a host write (R37). -/
theorem decodeHostWrite_above_cmd {a : BitVec 8} (h : 7 ≤ a.toNat) (d : Word) :
    decodeHostWrite (a :: wordBytes d) = .error (writeRefusal a) := by
  have hin : inputAddress a = false := by simp [inputAddress]; omega
  have hcmd : a ≠ 0x06 := by rintro rfl; simp at h
  simp only [wordBytes, decodeHostWrite, hin, hcmd, Bool.false_eq_true, if_false]

theorem rejected_writeRefusal (a : BitVec 8) (s : State) :
    rejected (writeRefusal a) s = .refused (.access (writeRefusal a)) := by
  unfold writeRefusal
  split <;> rfl

theorem rejected_readRefusal (a : BitVec 8) (s : State) :
    rejected (readRefusal a) s = .refused (.access (readRefusal a)) := by
  unfold readRefusal
  split <;> rfl

/-- The addresses that no host read reaches: CMD and the two reserved ranges (R36, R37). -/
theorem readableAddress_eq_false_iff {a : BitVec 8} : readableAddress a = false ↔
    a.toNat = 6 ∨ (0x16 ≤ a.toNat ∧ a.toNat ≤ 0x3F) ∨ 0xAB ≤ a.toNat := by
  simp only [readableAddress, Bool.or_eq_false_iff, Bool.and_eq_false_iff, decide_eq_false_iff_not]
  omega

/-- Exactly the unreadable addresses have no register behind them. -/
theorem hostRegister_eq_none_iff {s : State} {a : BitVec 8} :
    s.hostRegister a = none ↔ readableAddress a = false := by
  rw [readableAddress_eq_false_iff]
  unfold State.hostRegister
  split <;> simp_all
  omega

/-- A bit at 2 or above makes a CMD word refused before STATE or CODE is looked at (R37, R181). -/
theorem commandWrite_reservedBits {d : Word} (h : 4 ≤ d.toNat) (s : State) :
    s.commandWrite d = .refused (.access (.cmdReservedBits d)) := by
  have hfield : (d.extractLsb' 2 30).toNat = d.toNat / 4 := by
    rw [BitVec.extractLsb'_toNat, Nat.shiftRight_eq_div_pow]
    exact Nat.mod_eq_of_lt (by omega)
  have hbits : d.extractLsb' 2 30 ≠ 0 := by
    intro h0
    have hzero : (d.extractLsb' 2 30).toNat = 0 := by rw [h0]; rfl
    omega
  simp only [State.commandWrite, hbits, ne_eq, not_false_eq_true, if_true]

theorem exec_hrd_unreadable {a : BitVec 8} (h : readableAddress a = false) (s : State) :
    exec (.hrd a) s = .refused (.access (readRefusal a)) := by
  simp only [exec, execHrd, hostRegister_eq_none_iff.mpr h]

/-- Settles O13: the decoder rejects the writes and the reads, and HWR_CMD the word with reserved bits. -/
theorem hostAccessesOutsideTheMapAreRefused : Obligations.HostAccessesOutsideTheMapAreRefused := by
  intro s rest hc
  refine ⟨fun a d h ha => ⟨writeRefusal a, ?_⟩, fun a h => ?_, fun d h ha => ⟨.cmdReservedBits d, ?_⟩⟩
  · rw [step_present_error ha hc (decodeHostWrite_above_cmd h d), rejected_writeRefusal]
  · have hr : readableAddress a = false := readableAddress_eq_false_iff.mpr h
    have hd : decode ⟨.hostRead, 0, [a]⟩ = .error (readRefusal a) := by simp [decode, decodeHostRead, hr]
    exact ⟨fun ha => ⟨readRefusal a, by rw [step_present_error ha hc hd, rejected_readRefusal]⟩,
      readRefusal a, exec_hrd_unreadable hr s⟩
  · rw [step_present_ok ha hc (decodeHostWrite_cmd d)]
    exact commandWrite_reservedBits h _

/-! ### The reserved codes of STATE -/

/-- While STATE holds a reserved code, every turn but a reset fetches the block's own step (R31, ERR-5). -/
theorem fetch_reserved {s : State} (hc : 10 ≤ s.ctl.toNat) (hr : s.agenda.head? ≠ some .reset) :
    ∃ u, s.fetch = .instr s.controlStep u := by
  unfold State.fetch
  cases ha : s.agenda with
  | nil => exact ⟨_, rfl⟩
  | cons turn rest =>
    cases turn with
    | reset => simp [ha] at hr
    | block => exact ⟨_, rfl⟩
    | present e => exact ⟨_, if_pos hc⟩
    | transport d => exact ⟨_, if_pos hc⟩
    | time => exact ⟨_, if_pos hc⟩

theorem step_reserved {s : State} (hc : 10 ≤ s.ctl.toNat) (hr : s.agenda.head? ≠ some .reset) :
    step s = .fault (.reservedState s.ctl) := by
  obtain ⟨u, hu⟩ := fetch_reserved hc hr
  simp only [step, hu, decode_controlStep, selectStep_reserved hc]
  rfl

theorem setInput_ctl {s t : State} {a : BitVec 8} {d : Word} (h : s.setInput a d = some t) : t.ctl = s.ctl := by
  unfold State.setInput at h
  split at h <;> cases h <;> rfl

@[simp] theorem transportTurn_ctl (s : State) (d : Draw) : (s.transportTurn d).ctl = s.ctl := by
  unfold State.transportTurn
  split <;> rfl

@[simp] theorem timeTurn_ctl (s : State) : s.timeTurn.ctl = s.ctl := by
  unfold State.timeTurn
  split <;> rfl

@[simp] theorem popped_ctl (s : State) : s.popped.ctl = s.ctl := rfl

/-- The entries into the wait states are edges of the table. -/
theorem waits_follow_edges : [(Ctl.calClr1, Ctl.calWait1), (Ctl.calSet, Ctl.calWait2),
    (Ctl.calClr2, Ctl.calWait3)] ⊆ controlEdges := by
  simp [controlEdges]

/-- The ends of the wait states are edges of the table. -/
theorem wait_ends_follow_edges : [(Ctl.calWait1, Ctl.calSet), (Ctl.calWait2, Ctl.calClr2),
    (Ctl.calWait3, Ctl.calRdres)] ⊆ controlEdges := by
  simp [controlEdges]

/-- From every transaction state an edge of the table leads back to IDLE. -/
theorem failures_end_idle : ∀ c ∈ [(Ctl.cfgWrite, (0 : BitVec 3), false), (Ctl.calRdctrl, 1, false),
    (Ctl.calClr1, 2, true), (Ctl.calSet, 3, true), (Ctl.calClr2, 4, true), (Ctl.calRdres, 5, false)],
    (c.1, Ctl.idle) ∈ controlEdges := by
  simp [controlEdges]

/-- A move leaves STATE alone or follows an edge of the table (R30, R210). -/
theorem Moves.ctl_eq_or_edge {s t : State} (h : Moves s t) : t.ctl = s.ctl ∨ (s.ctl, t.ctl) ∈ controlEdges := by
  cases h with
  | stay => exact .inl rfl
  | setInput a d _ h => exact .inl (setInput_ctl h)
  | hostRead a r _ => left; split <;> rfl
  | domainError k h _ => exact .inl h.symm
  | plan h _ => right; rw [h, State.enterCfgWrite_ctl]; decide
  | calibrate h => right; rw [h, State.acceptCalibrate_ctl]; decide
  | issue q _ _ => exact .inl rfl
  | cfgOk h _ _ => right; rw [h, State.finishConfigure_ctl]; decide
  | rdctrlOk v h _ _ => right; rw [h, State.holdControl_ctl]; decide
  | writeOk st w hw h _ _ =>
    right
    rw [h, State.enterWait_ctl]
    exact waits_follow_edges hw
  | rdresOk v h _ _ => right; rw [h, State.finishCalibrate_ctl]; decide
  | fail st code indet hc h _ _ =>
    right
    rw [h, State.raiseTransportError_ctl]
    exact failures_end_idle _ hc
  | leave st w hw h _ =>
    right
    rw [h, State.leaveTo_ctl]
    exact wait_ends_follow_edges hw

/-- Every edge of the table ends in a legal code. -/
theorem controlEdges_legal {c c' : BitVec 4} (h : (c, c') ∈ controlEdges) : c'.toNat ≤ 9 := by
  revert c c'; decide

theorem Moves.ctl_legal {s t : State} (h : Moves s t) (hs : s.ctl.toNat ≤ 9) : t.ctl.toNat ≤ 9 := by
  obtain he | he := h.ctl_eq_or_edge
  · rwa [he]
  · exact controlEdges_legal he

/-- No step enters a reserved code, whatever STATE held before (R31). -/
theorem step_ctl_legal {s t : State} (h : step s = .next t) : t.ctl.toNat ≤ 9 := by
  obtain ⟨-, rfl⟩ | ⟨-, hc, ⟨d, -, rfl⟩ | ⟨-, rfl⟩ | ⟨-, hm⟩⟩ := step_cases h
  · exact Nat.zero_le 9
  · simpa using hc
  · simpa using hc
  · exact hm.ctl_legal hc

/-- Settles O32: at a reserved code only a reset moves, and every move from a legal code ends in one. -/
theorem reservedStateIsStuck : Obligations.ReservedStateIsStuck :=
  fun _ => ⟨step_reserved, fun _ => rfl, fun _ => step_ctl_legal⟩

end Sys2Proof.Machine
end

section
/-! The transaction rule (R68): which request a step may leave outstanding. -/

namespace Sys2Proof.Machine

/-! ### TXP and TXREQ under the moves that are no named update -/

theorem setInput_txp {s t : State} {a : BitVec 8} {d : Word} (h : s.setInput a d = some t) : t.txp = s.txp := by
  unfold State.setInput at h
  split at h <;> cases h <;> rfl

theorem setInput_txreq {s t : State} {a : BitVec 8} {d : Word} (h : s.setInput a d = some t) :
    t.txreq = s.txreq := by
  unfold State.setInput at h
  split at h <;> cases h <;> rfl

@[simp] theorem transportTurn_txp (s : State) (d : Draw) : (s.transportTurn d).txp = s.txp := by
  unfold State.transportTurn
  split <;> rfl

@[simp] theorem transportTurn_txreq (s : State) (d : Draw) : (s.transportTurn d).txreq = s.txreq := by
  unfold State.transportTurn
  split <;> rfl

@[simp] theorem timeTurn_txp (s : State) : s.timeTurn.txp = s.txp := by
  unfold State.timeTurn
  split <;> rfl

@[simp] theorem timeTurn_txreq (s : State) : s.timeTurn.txreq = s.txreq := by
  unfold State.timeTurn
  split <;> rfl

@[simp] theorem popped_txp (s : State) : s.popped.txp = s.txp := rfl

@[simp] theorem popped_txreq (s : State) : s.popped.txreq = s.txreq := rfl

@[simp] theorem popped_requestOfState (s : State) : s.popped.requestOfState = s.requestOfState := rfl

/-! ### The request of a state, and of a step -/

/-- The states that have a request, with the request of each (R86). -/
theorem requestOfState_eq_some {s : State} {q : TxReq} (h : s.requestOfState = some q) :
    (s.ctl = Ctl.cfgWrite ∧ q = s.cfgRequest) ∨ (s.ctl = Ctl.calRdctrl ∧ q = rdctrlRequest) ∨
    ((s.ctl = Ctl.calClr1 ∨ s.ctl = Ctl.calClr2) ∧ q = s.clearRequest) ∨
    (s.ctl = Ctl.calSet ∧ q = s.setRequest) ∨ (s.ctl = Ctl.calRdres ∧ q = rdresRequest) := by
  have code : ∀ {c : BitVec 4}, s.ctl.toNat = c.toNat → s.ctl = c := BitVec.eq_of_toNat_eq
  unfold State.requestOfState at h
  split at h <;> cases h
  case h_1 hc => exact .inl ⟨code hc, rfl⟩
  case h_2 hc => exact .inr (.inl ⟨code hc, rfl⟩)
  case h_3 hc => exact .inr (.inr (.inl ⟨.inl (code hc), rfl⟩))
  case h_4 hc => exact .inr (.inr (.inr (.inl ⟨code hc, rfl⟩)))
  case h_5 hc => exact .inr (.inr (.inl ⟨.inr (code hc), rfl⟩))
  case h_6 hc => exact .inr (.inr (.inr (.inr ⟨code hc, rfl⟩)))

/-- A move ends with no transaction outstanding, keeps the one there is, or, where there is none, issues the
request of its state (R68, R72). -/
theorem Moves.txreq_cases {s t : State} (h : Moves s t) :
    t.txp = false ∨ (t.txp = s.txp ∧ t.txreq = s.txreq) ∨
      (s.txp = false ∧ s.requestOfState = some t.txreq) := by
  cases h with
  | stay => exact .inr (.inl ⟨rfl, rfl⟩)
  | setInput a d _ h => exact .inr (.inl ⟨setInput_txp h, setInput_txreq h⟩)
  | hostRead a r _ => right; left; split <;> exact ⟨rfl, rfl⟩
  | leave st w _ _ _ => exact .inr (.inl ⟨rfl, rfl⟩)
  | issue q hp h => exact .inr (.inr ⟨hp, h⟩)
  | domainError k _ _ => exact .inl rfl
  | plan _ _ => exact .inl rfl
  | calibrate _ => exact .inl rfl
  | cfgOk _ _ _ => exact .inl rfl
  | rdctrlOk v _ _ _ => exact .inl rfl
  | writeOk st w _ _ _ _ => exact .inl rfl
  | rdresOk v _ _ _ => exact .inl rfl
  | fail st code indet _ _ _ _ => exact .inl rfl

/-- The same of every step: the turns of the transport and of time keep TXP and TXREQ, and a reset clears TXP. -/
theorem step_txreq_cases {s t : State} (h : step s = .next t) :
    t.txp = false ∨ (t.txp = s.txp ∧ t.txreq = s.txreq) ∨
      (s.txp = false ∧ s.requestOfState = some t.txreq) := by
  obtain ⟨-, rfl⟩ | ⟨-, -, ⟨d, -, rfl⟩ | ⟨-, rfl⟩ | ⟨-, hm⟩⟩ := step_cases h
  · exact .inl rfl
  · right; left; simp
  · right; left; simp
  · simpa using hm.txreq_cases

/-- Settles O34: a step that ends with TXP = 1 keeps the outstanding request or issues the request of its state. -/
theorem onlyTheSixTransactionsAreIssued : Obligations.OnlyTheSixTransactionsAreIssued := by
  intro s t h ht
  obtain hf | ⟨hp, hq⟩ | ⟨hp, hr⟩ := step_txreq_cases h
  · exact nomatch hf.symm.trans ht
  · exact ⟨fun hs => (nomatch (hp.trans hs).symm.trans ht), fun _ => hq⟩
  · exact ⟨fun _ => requestOfState_eq_some hr, fun hs => nomatch hp.symm.trans hs⟩

end Sys2Proof.Machine
end

section
/-! The calculator's statements: what a CONFIGURE writes when its zero check passes (R112, R118), what it reports
when the check fails (R111), and the codes that SDSEL produces (R117). -/

namespace Sys2Proof.Machine

/-! ### A CONFIGURE taken in IDLE -/

theorem exec_cmdConfigure_idle {s : State} (h : s.ctl = Ctl.idle) :
    exec .cmdConfigure s = .next s.acceptConfigure := by
  simp only [exec, execCmdConfigure, not_busy_iff.mpr h, Bool.false_eq_true, if_false]

/-- In IDLE the CMD word 1 is CMD_CONFIGURE (R181, R185). -/
theorem exec_hwrCmd_configure_idle {s : State} (h : s.ctl = Ctl.idle) :
    exec (.hwrCmd 1) s = .next s.acceptConfigure := by
  have hbits : (1 : Word).extractLsb' 2 30 = 0 := by decide
  have hcode : ((1 : Word).extractLsb' 0 2).toNat = 1 := by decide
  simp only [exec, execHwrCmd, State.commandWrite, hbits, hcode, not_busy_iff.mpr h, ne_eq, not_true_eq_false,
    Bool.false_eq_true, if_false]

@[simp] theorem storedPlan_storePlan (s : State) (p : Plan) : (s.storePlan p).storedPlan = p := rfl

@[simp] theorem storedPlan_enterCfgWrite (s : State) : s.enterCfgWrite.storedPlan = s.storedPlan := rfl

/-- The image of a stored plan is read back as PACK built it, if the image before it was canonical (R60, R158). -/
theorem read_image_storePlan {s : State} (hwf : Memory.wf s.image = true) (p : Plan) {i : Nat} (hi : i < imageLength) :
    Memory.read i (s.storePlan p).image = packByte chip p i := by
  rw [State.storePlan_image]
  exact Memory.read_build (Memory.rising_of_wf hwf) chip p hi

/-- Settles O17: with no zero input, the accepted CONFIGURE stores the plan and enters CFG_WRITE; its dividers are the
truncated quotients, and its image is read back as PACK built it. -/
theorem configureComputesThePlan : Obligations.ConfigureComputesThePlan := by
  intro s hidle hw hwf href hvco h1 h2 h3 h4
  have hd : dchk s.request = none := dchk_eq_none.mpr ⟨href, hvco, h1, h2, h3, h4⟩
  rw [exec_cmdConfigure_idle hidle, exec_hwrCmd_configure_idle hidle, acceptConfigure_planned hw hd]
  refine ⟨_, rfl, rfl, fbdiv_toNat _ _, rfl, congrArg Reg.of (sdsel_eq _), odiv_toNat _ _, rfl, odiv_toNat _ _, rfl,
    odiv_toNat _ _, rfl, odiv_toNat _ _, rfl, fun i hi => ?_, ?_⟩
  · rw [State.enterCfgWrite_image, storedPlan_enterCfgWrite, storedPlan_storePlan]
    exact read_image_storePlan (s := s.acceptCommand false) hwf _ hi
  · simp only [State.acceptCommand, State.storePlan, State.enterCfgWrite, Status.accept, Status.planned]

/-- Raised in IDLE, DomainError leaves STATE as it is (R252, R254). -/
theorem raiseDomainError_idle {s : State} (h : s.ctl = Ctl.idle) (k : BitVec 3) :
    s.raiseDomainError k = { s with resp := .empty, txp := false, status := s.status.domainError k } := by
  rw [State.raiseDomainError, ← h]
  rfl

/-- Settles O18: the zero check reports the first zero input, and raising DomainError changes the report, RESP and TXP;
STATE is set to IDLE, where it was. -/
theorem configureReportsTheFirstZeroInput : Obligations.ConfigureReportsTheFirstZeroInput := by
  intro s k hidle hw hk hfirst
  have hd : dchk s.request = some (BitVec.ofNat 3 k) := by
    simpa [dchk] using firstZero_of_first (l := s.request.inputs) (j := 0) hk hfirst
  rw [exec_cmdConfigure_idle hidle, acceptConfigure_zero hw hd, raiseDomainError_idle (s := s.acceptCommand false) hidle]
  rfl

/-! ### The sigma-delta code -/

theorem sdsel_eq_zero_or_three (fb : DWord) : sdsel fb = 0b00 ∨ sdsel fb = 0b11 := by
  unfold sdsel
  split
  · exact .inl rfl
  · exact .inr rfl

/-- With the channel blocks at their default places, register 0x18 is assigned once (R146). -/
theorem packRegister_sigmaDelta {c : Config} (hb : c.chBase = defaultChBase) (p : Plan) :
    packRegister c p 0x18 = sigmaDeltaRegister c p := by
  simp only [packRegister, computedRegisters, hb]
  rfl

/-- With SD_SHIFT = 0, bits [1:0] of register 0x18 are the SD code (R11, R146). -/
theorem sigmaDeltaRegister_low_bits {c : Config} (hs : c.sdShift = 0) (p : Plan) :
    (sigmaDeltaRegister c p).extractLsb' 0 2 = p.sd := by
  ext i hi
  have hi4 : i < 4 := by omega
  have hi8 : i < 8 := by omega
  simp [sigmaDeltaRegister, hs, hi, hi4, hi8]

/-- Settles O48: SD is a code of SDSEL, and register 0x18 carries it in bits [1:0]. -/
theorem sigmaDeltaOrderIsNeverOneOrTwo : Obligations.SigmaDeltaOrderIsNeverOneOrTwo := by
  intro r
  have hsd : r.plan.sd = 0b00 ∨ r.plan.sd = 0b11 := sdsel_eq_zero_or_three _
  rw [packRegister_sigmaDelta rfl, sigmaDeltaRegister_low_bits rfl]
  exact ⟨hsd, hsd⟩

end Sys2Proof.Machine
end

section
/-! The image's statements: which byte PACK gives each register (R142 to R156), and that the image a CONFIGURE leaves
depends on the inputs alone (R158). -/

namespace Sys2Proof.Machine

/-! ### The places of PACK's assignments -/

/-- The offsets in a channel block of the registers PACK computes (R151, R152). -/
def channelOffsets : List Nat := [0x1, 0x2, 0x3, 0x4, 0xC, 0xD]

/-- The registers PACK computes, with the channel blocks at their default places (R10, R140). -/
def computedPlaces : List Nat :=
  [0x10, 0x17, 0x18, 0x19, 0x1A, 0x1B, 0x1C] ++ channelOffsets.map (0x21 + ·) ++ channelOffsets.map (0x31 + ·)
    ++ channelOffsets.map (0x41 + ·) ++ channelOffsets.map (0x51 + ·)

/-- The same places, as ranges. -/
theorem mem_computedPlaces {r : Nat} : r ∈ computedPlaces ↔
    r = 0x10 ∨ (0x17 ≤ r ∧ r ≤ 0x1C) ∨ (0x22 ≤ r ∧ r ≤ 0x25) ∨ (0x2D ≤ r ∧ r ≤ 0x2E) ∨ (0x32 ≤ r ∧ r ≤ 0x35) ∨
      (0x3D ≤ r ∧ r ≤ 0x3E) ∨ (0x42 ≤ r ∧ r ≤ 0x45) ∨ (0x4D ≤ r ∧ r ≤ 0x4E) ∨ (0x52 ≤ r ∧ r ≤ 0x55) ∨
      (0x5D ≤ r ∧ r ≤ 0x5E) := by
  simp only [computedPlaces, channelOffsets, List.map_cons, List.map_nil, List.mem_append, List.mem_cons,
    List.not_mem_nil, or_false]
  omega

theorem computedRegisters_places {c : Config} (hb : c.chBase = defaultChBase) (p : Plan) :
    (computedRegisters c p).map Prod.fst = computedPlaces := by
  simp only [computedRegisters, hb]
  rfl

/-- With distinct keys, an entry of a list is what its key finds, from the last entry backwards too. -/
theorem lookup_reverse_of_mem {l : List (Nat × Byte)} (hl : (l.map Prod.fst).Nodup) {r : Nat} {v : Byte}
    (h : (r, v) ∈ l) : l.reverse.lookup r = some v := by
  obtain ⟨before, after, rfl⟩ := List.append_of_mem h
  rw [List.lookup_eq_some_iff]
  refine ⟨after.reverse, before.reverse, by simp, fun q hq => ?_⟩
  have hq : q.1 ∈ after.map Prod.fst := List.mem_map_of_mem (List.mem_reverse.mp hq)
  simp only [List.map_append, List.map_cons, List.nodup_append, List.nodup_cons] at hl
  obtain ⟨-, ⟨hr, -⟩, -⟩ := hl
  simpa using fun e : r = q.1 => hr (e ▸ hq)

/-- No register is assigned twice (R140), so an assignment of PACK is the register's byte. -/
theorem packRegister_of_mem {c : Config} (hb : c.chBase = defaultChBase) {p : Plan} {r : Nat} {v : Byte}
    (h : (r, v) ∈ computedRegisters c p) : packRegister c p r = v := by
  have hnodup : ((computedRegisters c p).map Prod.fst).Nodup := by
    rw [computedRegisters_places hb]
    decide
  rw [packRegister, lookup_reverse_of_mem hnodup h, Option.getD_some]

/-- A register without an assignment keeps the template's byte (R140, R149, R154). -/
theorem packRegister_of_not_computed {c : Config} (hb : c.chBase = defaultChBase) (p : Plan) {r : Nat}
    (h : r ∉ computedPlaces) : packRegister c p r = c.template r := by
  have hnone : (computedRegisters c p).reverse.lookup r = none := by
    rw [List.lookup_eq_none_iff]
    rintro ⟨k, v⟩ hq
    rw [← computedRegisters_places hb p] at h
    simpa using fun e : r = k => h (List.mem_map.mpr ⟨_, List.mem_reverse.mp hq, e.symm⟩)
  rw [packRegister, hnone, Option.getD_none]

/-! ### The bits of the computed registers -/

/-- Each bit of a flag's byte: the flag at its place, 0 elsewhere. -/
theorem getLsbD_flagBit (b : Bool) {i j : Nat} (hj : j < 8) : (flagBit b i).getLsbD j = (b && decide (j = i)) := by
  cases b with
  | false => simp [flagBit]
  | true =>
    rw [flagBit, if_pos rfl, BitVec.getLsbD_shiftLeft, BitVec.getLsbD_one, Bool.eq_iff_iff]
    simp only [Bool.and_eq_true, Bool.not_eq_true', decide_eq_true_eq, decide_eq_false_iff_not, true_and]
    omega

/-- The flags and template bits of register 0x10, as a field layout (R143). -/
theorem flagsRegister_eq (c : Config) : flagsRegister c =
    BitVec.ofBool c.flags.xtalEn ++ BitVec.ofBool c.flags.clkinEn ++ (c.template 0x10).extractLsb' 2 4
      ++ BitVec.ofBool c.flags.sleep ++ BitVec.ofBool c.flags.shutdownEn := by
  refine BitVec.eq_of_getLsbD_eq fun i hi => ?_
  simp only [flagsRegister, BitVec.getLsbD_or, BitVec.getLsbD_and, getLsbD_flagBit _ hi, BitVec.getLsbD_append]
  interval_cases i <;> simp

/-- CAL_START above the template's seven bits (R148). -/
theorem calControlRegister_eq (c : Config) :
    calControlRegister c = BitVec.ofBool c.flags.calStart ++ (c.template 0x1C).extractLsb' 0 7 := by
  refine BitVec.eq_of_getLsbD_eq fun i hi => ?_
  simp only [calControlRegister, BitVec.getLsbD_or, BitVec.getLsbD_and, getLsbD_flagBit _ hi, BitVec.getLsbD_append]
  interval_cases i <;> simp

/-- A nibble moved to the top of its byte leaves four zero bits behind (R146, R152). -/
theorem nibble_shiftLeft (x : BitVec 4) : x.setWidth 8 <<< 4 = x ++ 0x0#4 := by
  refine BitVec.eq_of_getLsbD_eq fun i hi => ?_
  simp only [BitVec.getLsbD_append]
  interval_cases i <;> simp

/-- With SD_SHIFT = 0, the SD code takes the two lowest of the nibble's zero bits (R11, R146). -/
theorem sigmaDeltaRegister_eq {c : Config} (hs : c.sdShift = 0) (p : Plan) :
    sigmaDeltaRegister c p = p.fb.extractLsb' 32 4 ++ 0b00#2 ++ p.sd := by
  rw [sigmaDeltaRegister, hs, nibble_shiftLeft]
  refine BitVec.eq_of_getLsbD_eq fun i hi => ?_
  simp only [BitVec.getLsbD_or, BitVec.getLsbD_append]
  interval_cases i <;> simp

/-- The mask 0xFC clears the two low bits of the fourth fraction byte (R14, R151). -/
theorem lowFraction_masked (od : DWord) : od.extractLsb' 0 8 &&& 0xFC = od.extractLsb' 2 6 ++ 0b00#2 := by
  refine BitVec.eq_of_getLsbD_eq fun i hi => ?_
  simp only [BitVec.getLsbD_append]
  interval_cases i <;> simp

/-! ### The registers outside the channel blocks -/

/-- Settles O49: each register named has one assignment or none; the assigned bytes are the field layouts above. -/
theorem imageRegistersFollowTheMap : Obligations.ImageRegistersFollowTheMap := by
  intro T F p c
  have assigned : ∀ {r v}, (r, v) ∈ computedRegisters c p → packByte c p (r + 1) = v := packRegister_of_mem rfl
  refine ⟨rfl, fun r hr => packRegister_of_not_computed rfl p ?_, ?_, ?_, ?_, ?_, ?_, ?_, ?_⟩
  · rw [mem_computedPlaces]
    omega
  · rw [assigned (v := flagsRegister c) (by simp [computedRegisters]), flagsRegister_eq]
  · exact assigned (by simp [computedRegisters])
  · exact (packRegister_sigmaDelta rfl p).trans (sigmaDeltaRegister_eq rfl p)
  · exact assigned (by simp [computedRegisters])
  · exact assigned (by simp [computedRegisters])
  · exact assigned (by simp [computedRegisters])
  · rw [assigned (v := calControlRegister c) (by simp [computedRegisters]), calControlRegister_eq]

/-! ### The channel blocks -/

/-- The blocks of the four channels at their default places, each with its divider (R10, R151). -/
def channelBlocks (p : Plan) : List (Nat × DWord) :=
  [(0x21, p.od1), (0x31, p.od2), (0x41, p.od3), (0x51, p.od4)]

theorem channelRegisters_subset {c : Config} (hb : c.chBase = defaultChBase) {p : Plan} {b : Nat} {od : DWord}
    (h : (b, od) ∈ channelBlocks p) : channelRegisters c b od ⊆ computedRegisters c p := by
  simp only [channelBlocks, List.mem_cons, Prod.mk.injEq, List.not_mem_nil, or_false] at h
  intro q hq
  simp only [computedRegisters, hb, defaultChBase, List.mem_append]
  rcases h with ⟨rfl, rfl⟩ | ⟨rfl, rfl⟩ | ⟨rfl, rfl⟩ | ⟨rfl, rfl⟩ <;> simp [hq]

/-- In and between the channel blocks, every place that is at none of the six offsets is unassigned (R153, R154). -/
theorem not_mem_computedPlaces {p : Plan} {b r : Nat} {od : DWord} (h : (b, od) ∈ channelBlocks p)
    (hr : r = b ∨ (b + 0x5 ≤ r ∧ r ≤ b + 0xB) ∨ r = b + 0xE ∨ r = 0x30 ∨ r = 0x40 ∨ r = 0x50) :
    r ∉ computedPlaces := by
  have hb : b = 0x21 ∨ b = 0x31 ∨ b = 0x41 ∨ b = 0x51 := by
    simp only [channelBlocks, List.mem_cons, Prod.mk.injEq, List.not_mem_nil, or_false] at h
    tauto
  rw [mem_computedPlaces]
  omega

/-- Settles O50: PACK assigns a channel's six registers as the block's offsets say, and no other in or between the
blocks. -/
theorem imageChannelsFollowTheMap : Obligations.ImageChannelsFollowTheMap := by
  intro T F p b od h c
  have assigned : ∀ {r v}, (r, v) ∈ channelRegisters c b od → packByte c p (r + 1) = v :=
    fun hv => packRegister_of_mem rfl (channelRegisters_subset rfl h hv)
  refine ⟨assigned (by simp [channelRegisters]), assigned (by simp [channelRegisters]),
    assigned (by simp [channelRegisters]), ?_, assigned (by simp [channelRegisters]), ?_,
    fun r hr => packRegister_of_not_computed rfl p (not_mem_computedPlaces h hr)⟩
  · rw [assigned (v := od.extractLsb' 0 8 &&& 0xFC) (by simp [channelRegisters, c, chip]), lowFraction_masked]
  · rw [assigned (v := (od.extractLsb' 32 4).setWidth 8 <<< 4) (by simp [channelRegisters]), nibble_shiftLeft]

/-! ### The image of a CONFIGURE -/

/-- A CMD_CONFIGURE that goes on is the accepting step, taken in IDLE (R185, R188). -/
theorem exec_cmdConfigure_next {s t : State} (h : exec .cmdConfigure s = .next t) :
    s.ctl = Ctl.idle ∧ t = s.acceptConfigure := by
  cases hb : s.busy with
  | true => simp [exec, execCmdConfigure, hb] at h
  | false =>
    have hidle := not_busy_iff.mp hb
    rw [exec_cmdConfigure_idle hidle] at h
    cases h
    exact ⟨hidle, rfl⟩

/-- A passed zero check builds the image of the inputs' plan, whether or not every input was written (R185; log 1). -/
theorem acceptConfigure_image {s : State} (hd : dchk s.request = none) :
    s.acceptConfigure.image = Memory.writeBytes 0 (packBytes chip s.request.plan) s.image := by
  simp [State.acceptConfigure, hd]

/-- Built over any two canonical images, PACK's bytes leave the same image (R158). -/
theorem Memory.build_eq_build {m n : Memory} (hm : Memory.wf m = true) (hn : Memory.wf n = true) (c : Config)
    (p : Plan) : Memory.writeBytes 0 (packBytes c p) m = Memory.writeBytes 0 (packBytes c p) n := by
  have wf_build : ∀ {k : Memory}, Memory.wf k = true → Memory.wf (Memory.writeBytes 0 (packBytes c p) k) = true :=
    fun hk => Memory.wf_writeBytes hk (by simp)
  refine Memory.ext_of_wf (wf_build hm) (wf_build hn) fun a ha => ?_
  rw [Memory.read_build (Memory.rising_of_wf hm) c p ha, Memory.read_build (Memory.rising_of_wf hn) c p ha]

/-- Settles O51: both CONFIGUREs build the same plan's bytes over a canonical image. -/
theorem imageDependsOnTheInputsAlone : Obligations.ImageDependsOnTheInputsAlone := by
  intro s s' t t' hreq hd hwf hwf' h h'
  obtain ⟨-, rfl⟩ := exec_cmdConfigure_next h
  obtain ⟨-, rfl⟩ := exec_cmdConfigure_next h'
  rw [acceptConfigure_image hd, acceptConfigure_image (hreq ▸ hd), ← hreq]
  refine ⟨Memory.build_eq_build hwf hwf' chip _, Memory.length_imageBytes _, ?_⟩
  rw [Memory.imageBytes_build (Memory.rising_of_wf hwf), packBytes_getElem? chip _ (by decide)]
  rfl

end Sys2Proof.Machine
end

section
/-! The statements of commands and bus: the input writes (R180), the command words (R181 to R188), and the issue and
complete steps of the transaction states (R190 to R233). -/

namespace Sys2Proof.Machine

/-! ### Writes of the input registers -/

theorem exec_hwrIn_of_setInput {s t : State} {a : BitVec 8} {d : Word} (h : s.setInput a d = some t) :
    exec (.hwrIn a d) s = .next t := by
  simp only [exec, execHwrIn, h]

/-- Settles O11: HWR_IN answers what setInput makes of its address. -/
theorem inputWriteSetsOneRegister : Obligations.InputWriteSetsOneRegister := fun _ _ =>
  ⟨exec_hwrIn_of_setInput rfl, exec_hwrIn_of_setInput rfl, exec_hwrIn_of_setInput rfl,
    exec_hwrIn_of_setInput rfl, exec_hwrIn_of_setInput rfl, exec_hwrIn_of_setInput rfl⟩

/-! ### The command words and their rows -/

/-- The CMD words without reserved bits, with the row of each CODE (R181). -/
def commandRows : List (Word × Instr) :=
  [(0, .cmdNop), (1, .cmdConfigure), (2, .cmdCalibrate), (3, .cmdRsvd)]

theorem mem_commandRows {d : Word} {i : Instr} : (d, i) ∈ commandRows ↔
    (d = 0 ∧ i = .cmdNop) ∨ (d = 1 ∧ i = .cmdConfigure) ∨ (d = 2 ∧ i = .cmdCalibrate) ∨
    (d = 3 ∧ i = .cmdRsvd) := by
  simp [commandRows]

/-- Every CMD word without reserved bits has a row. -/
theorem exists_commandRow {d : Word} (h : d.toNat < 4) : ∃ i, (d, i) ∈ commandRows := by
  have word : ∀ {c : Word}, d.toNat = c.toNat → d = c := BitVec.eq_of_toNat_eq
  obtain h0 | h1 | h2 | h3 : d.toNat = 0 ∨ d.toNat = 1 ∨ d.toNat = 2 ∨ d.toNat = 3 := by omega
  · exact ⟨_, mem_commandRows.mpr (.inl ⟨word h0, rfl⟩)⟩
  · exact ⟨_, mem_commandRows.mpr (.inr (.inl ⟨word h1, rfl⟩))⟩
  · exact ⟨_, mem_commandRows.mpr (.inr (.inr (.inl ⟨word h2, rfl⟩)))⟩
  · exact ⟨_, mem_commandRows.mpr (.inr (.inr (.inr ⟨word h3, rfl⟩)))⟩

/-- A host write of a CMD word runs the row of its CODE (R181). -/
theorem exec_hwrCmd_of_row {d : Word} {i : Instr} (h : (d, i) ∈ commandRows) (s : State) :
    exec (.hwrCmd d) s = exec i s := by
  obtain ⟨rfl, rfl⟩ | ⟨rfl, rfl⟩ | ⟨rfl, rfl⟩ | ⟨rfl, rfl⟩ := mem_commandRows.mp h <;> rfl

theorem busy_iff {s : State} : s.busy = true ↔ s.ctl ≠ Ctl.idle := by
  simp [State.busy]

/-- While STATE is not IDLE every command row is refused (R188). -/
theorem exec_commandRow_busy {d : Word} {i : Instr} (h : (d, i) ∈ commandRows) {s : State} (hc : s.ctl ≠ Ctl.idle) :
    exec i s = .refused .busy := by
  have hb := busy_iff.mpr hc
  obtain ⟨-, rfl⟩ | ⟨-, rfl⟩ | ⟨-, rfl⟩ | ⟨-, rfl⟩ := mem_commandRows.mp h <;>
    exact if_pos hb

/-- While STATE is not IDLE every CMD word without reserved bits is refused as busy (R188). -/
theorem exec_hwrCmd_busy {d : Word} (h : d.toNat < 4) {s : State} (hc : s.ctl ≠ Ctl.idle) :
    exec (.hwrCmd d) s = .refused .busy := by
  obtain ⟨i, hi⟩ := exists_commandRow h
  rw [exec_hwrCmd_of_row hi, exec_commandRow_busy hi hc]

theorem exec_cmdNop_idle {s : State} (h : s.ctl = Ctl.idle) : exec .cmdNop s = .next s := by
  simp only [exec, execCmdNop, not_busy_iff.mpr h, Bool.false_eq_true, if_false]

theorem exec_cmdCalibrate_idle {s : State} (h : s.ctl = Ctl.idle) :
    exec .cmdCalibrate s = .next s.acceptCalibrate := by
  simp only [exec, execCmdCalibrate, not_busy_iff.mpr h, Bool.false_eq_true, if_false]

theorem exec_cmdRsvd_idle {s : State} (h : s.ctl = Ctl.idle) : exec .cmdRsvd s = .refused .reservedCode := by
  simp only [exec, execCmdRsvd, not_busy_iff.mpr h, Bool.false_eq_true, if_false]

/-- Settles O23: the word's checks come in their order, and each code has its row. -/
theorem commandWordRunsItsRow : Obligations.CommandWordRunsItsRow := by
  intro s d
  have row : ∀ {i}, (d, i) ∈ commandRows → exec (.hwrCmd d) s = exec i s := fun h => exec_hwrCmd_of_row h s
  exact ⟨fun h => commandWrite_reservedBits h s, fun h hc => exec_hwrCmd_busy h hc,
    fun h => row (by simp [commandRows, h]), fun h => row (by simp [commandRows, h]),
    fun h => row (by simp [commandRows, h]), fun h => row (by simp [commandRows, h])⟩

/-- Settles O16: the word 0 is the row CMD_NOP, which is accepted in IDLE only. -/
theorem nopChangesNothing : Obligations.NopChangesNothing := by
  intro s
  have row : (0, .cmdNop) ∈ commandRows := by simp [commandRows]
  rw [exec_hwrCmd_of_row row]
  exact ⟨fun h => ⟨exec_cmdNop_idle h, exec_cmdNop_idle h⟩,
    fun h => ⟨exec_commandRow_busy row h, exec_commandRow_busy row h⟩⟩

/-- Settles O20: the accepting step is acceptCalibrate, written out. -/
theorem calibrateEntersTheSequence : Obligations.CalibrateEntersTheSequence := fun s h =>
  ⟨exec_cmdCalibrate_idle h, exec_hwrCmd_of_row (by simp [commandRows]) s⟩

/-- Settles O21: each row is refused, and so is each word with a row. -/
theorem commandsWhileBusyAreRefused : Obligations.CommandsWhileBusyAreRefused := by
  intro s hc
  have refused : ∀ {d i}, (d, i) ∈ commandRows → exec i s = .refused .busy := fun h => exec_commandRow_busy h hc
  exact ⟨refused (d := 0) (by simp [commandRows]), refused (d := 1) (by simp [commandRows]),
    refused (d := 2) (by simp [commandRows]), refused (d := 3) (by simp [commandRows]),
    fun d h => exec_hwrCmd_busy h hc⟩

/-- Settles O22: the word 3 is the row CMD_RSVD, which looks at STATE first and is refused either way. -/
theorem reservedCommandIsRefused : Obligations.ReservedCommandIsRefused := by
  intro s
  have row : (3, .cmdRsvd) ∈ commandRows := by simp [commandRows]
  rw [exec_hwrCmd_of_row row]
  exact ⟨fun h => ⟨exec_cmdRsvd_idle h, exec_cmdRsvd_idle h⟩,
    fun h => ⟨exec_commandRow_busy row h, exec_commandRow_busy row h⟩⟩

/-! ### Issue steps -/

theorem issueStep_enabled {st : BitVec 4} {s : State} (hc : s.ctl = st) (hp : s.txp = false) (q : TxReq) :
    issueStep st q s = .next (s.issue q) :=
  if_pos ⟨hc, hp⟩

/-- Issuing a WRITE to the device, field by field (R84). -/
theorem issue_busWrite (s : State) (bytes : List Byte) : s.issue (busWrite bytes) = s.afterIssue .write bytes := rfl

/-- Issuing a WRITE_READ to the device, field by field (R85). -/
theorem issue_busWriteRead (s : State) (r : Byte) : s.issue (busWriteRead r) = s.afterIssue .writeRead [r] := rfl

/-- Settles O24: each issue step is enabled, and the request of its state is a WRITE or a WRITE_READ to the device. -/
theorem issueStepsSendTheirRequest : Obligations.IssueStepsSendTheirRequest := by
  intro s hp
  have write : ∀ {st} (bytes : List Byte), s.ctl = st →
      issueStep st (busWrite bytes) s = .next (s.afterIssue .write bytes) := fun bytes hc => by
    rw [issueStep_enabled hc hp, issue_busWrite]
  have writeRead : ∀ {st} (r : Byte), s.ctl = st →
      issueStep st (busWriteRead r) s = .next (s.afterIssue .writeRead [r]) := fun r hc => by
    rw [issueStep_enabled hc hp, issue_busWriteRead]
  exact ⟨write s.image.imageBytes, writeRead 0x1C, write [0x1C, clearPayload s.calV.val],
    write [0x1C, setPayload s.calV.val], write [0x1C, clearPayload s.calV.val], writeRead 0x99⟩

/-! ### Complete steps -/

section
variable {st : BitVec 4} {s : State} (hc : s.ctl = st) (hp : s.txp = true)
include hc hp

theorem completeWrite_ok (hr : s.resp = .ok []) (onOk onFail : State → State) :
    completeWrite st onOk onFail s = .next (onOk s.consume) := by
  simp only [completeWrite, hc, hp, hr, and_self, if_true]

theorem completeWrite_fail (hr : s.resp = .fail) (onOk onFail : State → State) :
    completeWrite st onOk onFail s = .next (onFail s) := by
  simp only [completeWrite, hc, hp, hr, and_self, if_true]

theorem completeRead_ok {v : Byte} (hr : s.resp = .ok [v]) (onOk : Byte → State → State) (onFail : State → State) :
    completeRead st onOk onFail s = .next (onOk v s.consume) := by
  simp only [completeRead, hc, hp, hr, and_self, if_true]

theorem completeRead_fail (hr : s.resp = .fail) (onOk : Byte → State → State) (onFail : State → State) :
    completeRead st onOk onFail s = .next (onFail s) := by
  simp only [completeRead, hc, hp, hr, and_self, if_true]

end

/-- Settles O27: each complete step goes on with its OK rule, whose named update of the consumed state is the record
written out. -/
theorem completeStepsWithOk : Obligations.CompleteStepsWithOk := by
  intro s v hp
  simp only [exec, execStepCfgDone, execStepRdctrlDone, execStepClr1Done, execStepSetDone, execStepClr2Done,
    execStepRdresDone]
  exact ⟨fun hc hr => completeWrite_ok hc hp hr _ _, fun hc hr => completeRead_ok hc hp hr _ _,
    fun hc hr => completeWrite_ok hc hp hr _ _, fun hc hr => completeWrite_ok hc hp hr _ _,
    fun hc hr => completeWrite_ok hc hp hr _ _, fun hc hr => completeRead_ok hc hp hr _ _⟩

/-- A TransportError outside the calibration writes keeps CAL_INDET (R251). -/
theorem raiseTransportError_determinate (s : State) (code : BitVec 3) :
    s.raiseTransportError code false = s.afterTransportError code s.status.calIndet := by
  simp only [State.raiseTransportError, Status.transportError, Bool.or_false]
  rfl

/-- A TransportError in a calibration write sets CAL_INDET (R236, R251). -/
theorem raiseTransportError_indeterminate (s : State) (code : BitVec 3) :
    s.raiseTransportError code true = s.afterTransportError code true := by
  simp only [State.raiseTransportError, Status.transportError, Bool.or_true]
  rfl

/-- Settles O28: each complete step goes on with its FAIL rule, a TransportError with the step's code. -/
theorem completeStepsWithFail : Obligations.CompleteStepsWithFail := by
  intro s hp hr
  simp only [exec, execStepCfgDone, execStepRdctrlDone, execStepClr1Done, execStepSetDone, execStepClr2Done,
    execStepRdresDone, ← raiseTransportError_determinate, ← raiseTransportError_indeterminate]
  exact ⟨fun hc => completeWrite_fail hc hp hr _ _, fun hc => completeRead_fail hc hp hr _ _,
    fun hc => completeWrite_fail hc hp hr _ _, fun hc => completeWrite_fail hc hp hr _ _,
    fun hc => completeWrite_fail hc hp hr _ _, fun hc => completeRead_fail hc hp hr _ _⟩

end Sys2Proof.Machine
end

section
/-! The rule about errors (R251, R252, R254): which moves end with an error in RESULT, and what raising one changes. -/

namespace Sys2Proof.Machine

theorem setInput_status {s t : State} {a : BitVec 8} {d : Word} (h : s.setInput a d = some t) :
    t.status = s.status := by
  unfold State.setInput at h
  split at h <;> cases h <;> rfl

/-- A move keeps STATUS, leaves NONE or OK in RESULT, or raises one of the two errors: a TransportError on a FAIL
response, or a DomainError in IDLE on a zero input (R26, R251, R252). -/
theorem Moves.status_cases {s t : State} (h : Moves s t) :
    t.status = s.status ∨ (t.status.result = ResultCode.none ∨ t.status.result = ResultCode.ok) ∨
    (s.resp = .fail ∧ ∃ code indet, (s.ctl, code, indet) ∈ errorReports ∧ t = s.raiseTransportError code indet) ∨
    (s.ctl = Ctl.idle ∧ ∃ k, dchk s.request = some k ∧
      t = (s.noteInputs.acceptCommand false).raiseDomainError k) := by
  cases h with
  | stay => exact .inl rfl
  | setInput a d _ h => exact .inl (setInput_status h)
  | hostRead a r _ => left; split <;> rfl
  | issue q _ _ => exact .inl rfl
  | rdctrlOk v _ _ _ => exact .inl rfl
  | writeOk st w _ _ _ _ => exact .inl rfl
  | leave st w _ _ _ => exact .inl rfl
  | plan _ _ => exact .inr (.inl (.inl rfl))
  | calibrate _ => exact .inr (.inl (.inl rfl))
  | cfgOk _ _ _ => exact .inr (.inl (.inr rfl))
  | rdresOk v _ _ _ => exact .inr (.inl (.inr rfl))
  | fail st code indet hc h _ hr => exact .inr (.inr (.inl ⟨hr, code, indet, h ▸ hc, rfl⟩))
  | domainError k h hk => exact .inr (.inr (.inr ⟨h, k, hk, rfl⟩))

/-- The first check of a CONFIGURE changes the record of an unwritten input alone (log 1). -/
theorem noteInputs_frame (s : State) : s.noteInputs = { s with unwrittenRead := s.noteInputs.unwrittenRead } := by
  unfold State.noteInputs
  split <;> rfl

/-- A CONFIGURE whose zero check fails changes RESP, TXP, STATE, its report and the record (R252, R254; log 1). -/
theorem raiseDomainError_configure (s : State) (k : BitVec 3) :
    (s.noteInputs.acceptCommand false).raiseDomainError k =
      { s with resp := .empty, txp := false, ctl := Ctl.idle, status := (s.status.accept false).domainError k,
               unwrittenRead := s.noteInputs.unwrittenRead } := by
  rw [noteInputs_frame]
  rfl

/-- Settles O35: a move that changes STATUS and ends with an error's code raised that error, and both errors are
records written out. -/
theorem errorsChangeOnlyTheirReport : Obligations.ErrorsChangeOnlyTheirReport := by
  intro i s t h hne hres
  have codes : ResultCode.transportError ≠ ResultCode.domainError := by decide
  obtain hs | hr | ⟨hfail, code, indet, hrep, rfl⟩ | ⟨hidle, k, hk, rfl⟩ := (exec_moves h).status_cases
  · exact absurd hs hne
  · rcases hr with hr | hr <;> rw [hr] at hres <;> exact absurd hres (by decide)
  · exact ⟨rfl, rfl, rfl, rfl, fun _ => ⟨hfail, code, indet, hrep, rfl⟩, fun h3 => absurd h3 codes, rfl⟩
  · rw [raiseDomainError_configure]
    exact ⟨rfl, rfl, rfl, rfl, fun h2 => absurd h2 codes.symm, fun _ => ⟨hidle, k, hk, rfl⟩, rfl⟩

end Sys2Proof.Machine
end

section
/-! The rule about input registers (R287): on a turn that is not the host's, putting other inputs into the state
commutes with the step. -/

namespace Sys2Proof.Machine

/-- The state `s` with the six input registers of `u` (R21). -/
def State.withInputsOf (s u : State) : State :=
  { s with refHz := u.refHz, vcoHz := u.vcoHz, out1Hz := u.out1Hz, out2Hz := u.out2Hz
           out3Hz := u.out3Hz, out4Hz := u.out4Hz }

theorem sameButInputs_withInputsOf (s u : State) : s.sameButInputs (s.withInputsOf u) := rfl

/-! ### The turns and the fetch -/

theorem transportTurn_withInputsOf (s u : State) (d : Draw) :
    (s.withInputsOf u).transportTurn d = (s.transportTurn d).withInputsOf u := by
  simp only [State.transportTurn, apply_ite (State.withInputsOf · u)]
  rfl

theorem timeTurn_withInputsOf (s u : State) : (s.withInputsOf u).timeTurn = s.timeTurn.withInputsOf u := by
  simp only [State.timeTurn, apply_ite (State.withInputsOf · u)]
  rfl

/-- A fetch result with other inputs in its state; the instruction fetched stays. -/
def Fetched.withInputsOf (u : State) : Fetched → Fetched
  | .instr e s => .instr e (s.withInputsOf u)
  | .moved s => .moved (s.withInputsOf u)

/-- A turn that is not the host's fetches the same, whatever the inputs hold. -/
theorem fetch_withInputsOf {s : State} (hn : s.noHostTurn = true) (u : State) :
    (s.withInputsOf u).fetch = s.fetch.withInputsOf u := by
  have ha : (s.withInputsOf u).agenda = s.agenda := rfl
  have hc : (s.withInputsOf u).ctl = s.ctl := rfl
  unfold State.noHostTurn at hn
  unfold State.fetch
  rw [ha, hc]
  cases h : s.agenda with
  | nil => rfl
  | cons turn rest =>
    cases turn with
    | present e => simp [h] at hn
    | reset => simp [h] at hn
    | block => rfl
    | transport d =>
      simp only [apply_ite (Fetched.withInputsOf u)]
      exact congrArg (ite _ _) (congrArg Fetched.moved (transportTurn_withInputsOf { s with agenda := rest } u d))
    | time =>
      simp only [apply_ite (Fetched.withInputsOf u)]
      exact congrArg (ite _ _) (congrArg Fetched.moved (timeTurn_withInputsOf { s with agenda := rest } u))

/-- On a turn that is not the host's the only instruction fetched is the block's own control step (R83). -/
theorem fetch_instr_noHostTurn {s v : State} {e : Encoded} (hn : s.noHostTurn = true) (h : s.fetch = .instr e v) :
    e = s.controlStep := by
  unfold State.noHostTurn at hn
  unfold State.fetch at h
  cases ha : s.agenda with
  | nil => simp only [ha] at h; cases h; rfl
  | cons turn rest =>
    simp only [ha] at h hn
    cases turn with
    | present e => cases hn
    | reset => cases hn
    | block => cases h; rfl
    | transport d => dsimp only at h; split at h <;> cases h; rfl
    | time => dsimp only at h; split at h <;> cases h; rfl

/-! ### The control steps -/

/-- The control-state steps, which the block's registers select (R83). -/
def blockStep : Instr → Bool
  | .stepCfgIssue | .stepCfgDone | .stepRdctrlIssue | .stepRdctrlDone | .stepClr1Issue | .stepClr1Done
  | .stepWait1 | .stepSetIssue | .stepSetDone | .stepWait2 | .stepClr2Issue | .stepClr2Done | .stepWait3
  | .stepRdresIssue | .stepRdresDone | .stepRsvd _ => true
  | _ => false

theorem blockStep_of_selectStep {c : BitVec 4} {txp ready texp : Bool} {i : Instr}
    (h : selectStep c txp ready texp = .ok i) : blockStep i = true := by
  have key : ∀ (c : BitVec 4) (a b d : Bool), (selectStep c a b d).toOption.all blockStep = true := by decide
  simpa [h, Except.toOption] using key c txp ready texp

section
variable {st : BitVec 4} {s t : State} (u : State)

theorem issueStep_withInputsOf {q : TxReq} (h : issueStep st q s = .next t) :
    issueStep st q (s.withInputsOf u) = .next (t.withInputsOf u) := by
  obtain ⟨hc, hp, rfl⟩ := issueStep_next h
  exact issueStep_enabled (s := s.withInputsOf u) hc hp q

theorem leaveWait_withInputsOf {w : BitVec 4} (h : leaveWait st w s = .next t) :
    leaveWait st w (s.withInputsOf u) = .next (t.withInputsOf u) := by
  obtain ⟨hc, ht, rfl⟩ := leaveWait_next h
  exact if_pos ⟨hc, ht⟩

/-- A complete step whose OK and FAIL rules neither read nor write the inputs does neither itself. -/
theorem completeWrite_withInputsOf {onOk onFail : State → State}
    (h : completeWrite st onOk onFail s = .next t)
    (hOk : ∀ v, onOk (v.withInputsOf u) = (onOk v).withInputsOf u)
    (hFail : ∀ v, onFail (v.withInputsOf u) = (onFail v).withInputsOf u) :
    completeWrite st onOk onFail (s.withInputsOf u) = .next (t.withInputsOf u) := by
  obtain ⟨hc, hp, ⟨hr, rfl⟩ | ⟨hr, rfl⟩⟩ := completeWrite_next h
  · rw [← hOk]; exact completeWrite_ok (s := s.withInputsOf u) hc hp hr onOk onFail
  · rw [← hFail]; exact completeWrite_fail (s := s.withInputsOf u) hc hp hr onOk onFail

/-- The same of the complete step of a read, whose OK rule takes the byte read. -/
theorem completeRead_withInputsOf {onOk : Byte → State → State} {onFail : State → State}
    (h : completeRead st onOk onFail s = .next t)
    (hOk : ∀ b v, onOk b (v.withInputsOf u) = (onOk b v).withInputsOf u)
    (hFail : ∀ v, onFail (v.withInputsOf u) = (onFail v).withInputsOf u) :
    completeRead st onOk onFail (s.withInputsOf u) = .next (t.withInputsOf u) := by
  obtain ⟨hc, hp, ⟨b, hr, rfl⟩ | ⟨hr, rfl⟩⟩ := completeRead_next h
  · rw [← hOk]; exact completeRead_ok (s := s.withInputsOf u) hc hp hr onOk onFail
  · rw [← hFail]; exact completeRead_fail (s := s.withInputsOf u) hc hp hr onOk onFail

/-- A control step that goes on does the same with other inputs, and keeps them. -/
theorem exec_blockStep_withInputsOf {i : Instr} (hi : blockStep i = true) (h : exec i s = .next t) :
    exec i (s.withInputsOf u) = .next (t.withInputsOf u) := by
  cases i with
  | stepCfgIssue => exact issueStep_withInputsOf u h
  | stepRdctrlIssue => exact issueStep_withInputsOf u h
  | stepClr1Issue => exact issueStep_withInputsOf u h
  | stepSetIssue => exact issueStep_withInputsOf u h
  | stepClr2Issue => exact issueStep_withInputsOf u h
  | stepRdresIssue => exact issueStep_withInputsOf u h
  | stepCfgDone =>
    simp only [exec, execStepCfgDone] at h ⊢
    exact completeWrite_withInputsOf u h (fun _ => rfl) (fun _ => rfl)
  | stepClr1Done =>
    simp only [exec, execStepClr1Done] at h ⊢
    exact completeWrite_withInputsOf u h (fun _ => rfl) (fun _ => rfl)
  | stepSetDone =>
    simp only [exec, execStepSetDone] at h ⊢
    exact completeWrite_withInputsOf u h (fun _ => rfl) (fun _ => rfl)
  | stepClr2Done =>
    simp only [exec, execStepClr2Done] at h ⊢
    exact completeWrite_withInputsOf u h (fun _ => rfl) (fun _ => rfl)
  | stepRdctrlDone =>
    simp only [exec, execStepRdctrlDone] at h ⊢
    exact completeRead_withInputsOf u h (fun _ _ => rfl) (fun _ => rfl)
  | stepRdresDone =>
    simp only [exec, execStepRdresDone] at h ⊢
    exact completeRead_withInputsOf u h (fun _ _ => rfl) (fun _ => rfl)
  | stepWait1 => exact leaveWait_withInputsOf u h
  | stepWait2 => exact leaveWait_withInputsOf u h
  | stepWait3 => exact leaveWait_withInputsOf u h
  | stepRsvd code => cases h
  | _ => cases hi

/-- A form without an instruction that goes on does nothing, with any inputs. -/
theorem rejected_withInputsOf {why : DecodeError} (h : rejected why s = .next t) :
    rejected why (s.withInputsOf u) = .next (t.withInputsOf u) := by
  cases why <;> cases h <;> rfl

/-! ### The step -/

/-- A step on a turn that is not the host's does the same with other inputs, and keeps them (R287). -/
theorem step_withInputsOf (hn : s.noHostTurn = true) (h : step s = .next t) :
    step (s.withInputsOf u) = .next (t.withInputsOf u) := by
  simp only [step, fetch_withInputsOf hn u] at h ⊢
  cases hf : s.fetch with
  | moved v =>
    rw [hf] at h
    cases h
    rfl
  | instr e v =>
    obtain rfl := fetch_instr_noHostTurn hn hf
    simp only [hf, Fetched.withInputsOf, decode_controlStep] at h ⊢
    cases hs : selectStep s.ctl s.txp (s.resp != .empty) s.texp with
    | ok i =>
      rw [hs] at h
      exact exec_blockStep_withInputsOf u (blockStep_of_selectStep hs) h
    | error why =>
      rw [hs] at h
      exact rejected_withInputsOf u h

end

/-- Settles O38: the second state is the first with other inputs, so its step is the first's with those inputs. -/
theorem runningCommandIgnoresTheInputs : Obligations.RunningCommandIgnoresTheInputs := fun _ s' t hs hn h =>
  ⟨t.withInputsOf s', (congrArg step hs).trans (step_withInputsOf s' hn h), sameButInputs_withInputsOf t s'⟩

end Sys2Proof.Machine
end

section
/-! The invariant (R22 to R33, R60, R66, R117, R158): the reset state meets it, and every step keeps it. Each half is
kept by a move for a reason of its own, so each half has its own lemma over the moves. -/

namespace Sys2Proof.Machine

/-! ### What the invariant does not read -/

/-- The state `s` with what `u` holds outside the block's command, transaction and result registers: the inputs, the
host's data, the record of an unwritten read and the turns to come. -/
def State.withOutsideOf (s u : State) : State :=
  { s.withInputsOf u with hostData := u.hostData, unwrittenRead := u.unwrittenRead, agenda := u.agenda }

theorem State.ControlInv.withOutsideOf {s : State} (h : s.ControlInv) (u : State) :
    (s.withOutsideOf u).ControlInv :=
  ⟨h.ctl_legal, h.txreq_of_state, h.resp_empty, h.resp_length, h.texp_wait, h.calV_written⟩

theorem State.StatusInv.withOutsideOf {s : State} (h : s.StatusInv) (u : State) : (s.withOutsideOf u).StatusInv :=
  ⟨h.result_legal, h.step_legal, h.zeroInput_legal, h.busy_none, h.lastCmd_of_state, h.step_of_result,
    h.step_of_lastCmd, h.zeroInput_of_result, h.domainError_configure, h.calIndet_iff, h.calValid_running⟩

theorem State.DataInv.withOutsideOf {s : State} (h : s.DataInv) (u : State) : (s.withOutsideOf u).DataInv :=
  ⟨h.image_wf, h.image_start, h.image_of_plan, h.results_written, h.planValid_written, h.sd_of_fb, h.band_of_calS,
    h.calS_written, h.calValid_written, h.cfgWrite_planned⟩

theorem State.Inv.withOutsideOf {s : State} (h : s.Inv) (u : State) : (s.withOutsideOf u).Inv :=
  ⟨h.control.withOutsideOf u, h.status.withOutsideOf u, h.data.withOutsideOf u⟩

/-- A written input changes the inputs alone (R180). -/
theorem setInput_inputs {s t : State} {a : BitVec 8} {d : Word} (h : s.setInput a d = some t) :
    t = s.withInputsOf t := by
  unfold State.setInput at h
  split at h <;> cases h <;> rfl

theorem setInput_frame {s t : State} {a : BitVec 8} {d : Word} (h : s.setInput a d = some t) :
    t = s.withOutsideOf t := by
  rw [setInput_inputs h]
  rfl

/-- A host read changes the host's data and the record alone (R182; log 1). -/
theorem hostRead_frame (s : State) (a : BitVec 8) (r : Reg 32) :
    (if r.written then s else s.recordUnwritten (.hostRead a)).returnData r.val =
      s.withOutsideOf ((if r.written then s else s.recordUnwritten (.hostRead a)).returnData r.val) := by
  split <;> rfl

/-- The transport's turn changes RESP alone (R193). -/
theorem transportTurn_frame (s : State) (d : Draw) :
    s.transportTurn d = { s with resp := (s.transportTurn d).resp } := by
  unfold State.transportTurn
  split <;> rfl

/-- The turn of time changes TEXP alone (R262). -/
theorem timeTurn_frame (s : State) : s.timeTurn = { s with texp := s.timeTurn.texp } := by
  unfold State.timeTurn
  split <;> rfl

/-- The results and the image in `t` are those of `s` (R22, R60). -/
def State.keepsResults (s t : State) : Prop :=
  t.fb = s.fb ∧ t.sd = s.sd ∧ t.od1 = s.od1 ∧ t.od2 = s.od2 ∧ t.od3 = s.od3 ∧ t.od4 = s.od4 ∧
    t.imageWritten = s.imageWritten ∧ t.image = s.image

theorem State.keepsResults_refl (s : State) : s.keepsResults s := ⟨rfl, rfl, rfl, rfl, rfl, rfl, rfl, rfl⟩

/-- A move makes a plan, from IDLE to CFG_WRITE, or keeps the results and the image (R22, R60, R185). -/
theorem Moves.plan_or_keepsResults {s t : State} (h : Moves s t) :
    (s.ctl = Ctl.idle ∧ t = ((s.noteInputs.acceptCommand false).storePlan s.request.plan).enterCfgWrite) ∨
      s.keepsResults t := by
  have same := s.keepsResults_refl
  cases h with
  | plan h _ => exact .inl ⟨h, rfl⟩
  | setInput a d _ h => right; rw [setInput_frame h]; exact same
  | hostRead a r _ => right; rw [hostRead_frame]; exact same
  | domainError k _ _ => right; simp [State.keepsResults]
  | stay => exact .inr same
  | calibrate _ => exact .inr same
  | issue q _ _ => exact .inr same
  | cfgOk _ _ _ => exact .inr same
  | rdctrlOk v _ _ _ => exact .inr same
  | writeOk st w _ _ _ _ => exact .inr same
  | rdresOk v _ _ _ => exact .inr same
  | fail st code indet _ _ _ _ => exact .inr same
  | leave st w _ _ _ => exact .inr same

/-! ### The control half -/

/-- With no transaction outstanding and no delay ended, STATE and the mark of CAL_V are all there is to check. -/
theorem controlInv_of_quiet {t : State} (hp : t.txp = false) (hr : t.resp = .empty) (ht : t.texp = false)
    (hc : t.ctl.toNat ≤ 9) (hv : 3 ≤ t.ctl.toNat → t.calV.written = true) : t.ControlInv where
  ctl_legal := hc
  txreq_of_state := fun h => nomatch hp.symm.trans h
  resp_empty := fun _ => hr
  resp_length := fun _ h => nomatch hr.symm.trans h
  texp_wait := fun h => nomatch ht.symm.trans h
  calV_written := hv

section
variable {s : State} (h : s.ControlInv)
include h

/-- In a state that issues nothing, nothing is outstanding. -/
theorem State.ControlInv.txp_eq_false (hq : s.requestOfState = none) : s.txp = false :=
  Bool.eq_false_iff.mpr fun hp => nomatch hq.symm.trans (h.txreq_of_state hp)

theorem State.ControlInv.texp_eq_false (hw : waitState s.ctl = false) : s.texp = false :=
  Bool.eq_false_iff.mpr fun ht => nomatch hw.symm.trans (h.texp_wait ht)

end

/-- Every state with a transaction to issue is no wait state. -/
theorem waitState_of_request {s : State} {q : TxReq} (h : s.requestOfState = some q) : waitState s.ctl = false := by
  obtain ⟨hc, -⟩ | ⟨hc, -⟩ | ⟨hc | hc, -⟩ | ⟨hc, -⟩ | ⟨hc, -⟩ := requestOfState_eq_some h <;> rw [hc] <;> rfl

/-- The wait states are entered from calibration states past step 1. -/
theorem wait_entries_calibrate {st w : BitVec 4} (h : (st, w) ∈ [(Ctl.calClr1, Ctl.calWait1),
    (Ctl.calSet, Ctl.calWait2), (Ctl.calClr2, Ctl.calWait3)]) : 3 ≤ st.toNat ∧ 3 ≤ w.toNat := by
  revert st w; decide

/-- The wait states are left for calibration states past step 1. -/
theorem wait_ends_calibrate {st w : BitVec 4} (h : (st, w) ∈ [(Ctl.calWait1, Ctl.calSet),
    (Ctl.calWait2, Ctl.calClr2), (Ctl.calWait3, Ctl.calRdres)]) : 3 ≤ st.toNat ∧ 3 ≤ w.toNat := by
  revert st w; decide

theorem State.ControlInv.moves {s t : State} (h : s.ControlInv) (m : Moves s t) : t.ControlInv := by
  have hlegal := m.ctl_legal h.ctl_legal
  have idle : s.ctl = Ctl.idle → s.txp = false ∧ s.resp = .empty ∧ s.texp = false := fun hc => by
    have hp : s.txp = false := h.txp_eq_false (by simp [State.requestOfState, hc])
    exact ⟨hp, h.resp_empty hp, h.texp_eq_false (by rw [hc]; rfl)⟩
  have outstanding : s.txp = true → s.texp = false := fun hp =>
    h.texp_eq_false (waitState_of_request (h.txreq_of_state hp))
  cases m with
  | stay => exact h
  | setInput a d _ ht => rw [setInput_frame ht]; exact h.withOutsideOf t
  | hostRead a r _ => rw [hostRead_frame]; exact h.withOutsideOf _
  | domainError k hc _ =>
    obtain ⟨-, -, ht⟩ := idle hc
    exact controlInv_of_quiet rfl rfl (by simpa using ht) hlegal (by simp)
  | plan hc _ =>
    obtain ⟨-, hr, ht⟩ := idle hc
    exact controlInv_of_quiet rfl (by simpa using hr) (by simpa using ht) hlegal (by simp)
  | calibrate hc =>
    obtain ⟨-, hr, ht⟩ := idle hc
    exact controlInv_of_quiet rfl hr ht hlegal (by simp)
  | issue q hp hq =>
    exact ⟨h.ctl_legal, fun _ => hq, fun hf => (nomatch hf), fun _ he => (nomatch he), h.texp_wait, h.calV_written⟩
  | cfgOk _ hp _ => exact controlInv_of_quiet rfl rfl (outstanding hp) hlegal (by simp)
  | rdctrlOk v _ hp _ => exact controlInv_of_quiet rfl rfl (outstanding hp) hlegal (by simp)
  | writeOk st w hw hc hp _ =>
    have hst : 3 ≤ s.ctl.toNat := hc ▸ (wait_entries_calibrate hw).1
    exact controlInv_of_quiet rfl rfl rfl hlegal fun _ => h.calV_written hst
  | rdresOk v _ hp _ => exact controlInv_of_quiet rfl rfl (outstanding hp) hlegal (by simp)
  | fail st code indet _ _ hp _ => exact controlInv_of_quiet rfl rfl (outstanding hp) hlegal (by simp)
  | leave st w hw hc ht =>
    have hst : 3 ≤ s.ctl.toNat := hc ▸ (wait_ends_calibrate hw).1
    have hp : s.txp = false := Bool.eq_false_iff.mpr fun hp => nomatch (outstanding hp).symm.trans ht
    exact controlInv_of_quiet hp (h.resp_empty hp) rfl hlegal fun _ => h.calV_written hst

/-- The transport's answer has the length that its request asks for (R66, R193). -/
theorem length_answer {d : Draw} {q : TxReq} {rbytes : List Byte} (h : d.answer q = .ok rbytes) :
    rbytes.length = q.rlen := by
  cases d with
  | fail => cases h
  | ok b => cases h; cases hk : q.kind <;> simp [TxReq.rlen, hk]

theorem State.ControlInv.transportTurn {s : State} (h : s.ControlInv) (d : Draw) :
    (s.transportTurn d).ControlInv := by
  unfold State.transportTurn
  split
  · next hg =>
    obtain ⟨hp, -⟩ := hg
    exact ⟨h.ctl_legal, h.txreq_of_state, fun hf => (nomatch hp.symm.trans hf), fun _ => length_answer, h.texp_wait,
      h.calV_written⟩
  · exact h

theorem State.ControlInv.timeTurn {s : State} (h : s.ControlInv) : s.timeTurn.ControlInv := by
  unfold State.timeTurn
  split
  · next hg =>
    obtain ⟨hw, -⟩ := hg
    exact ⟨h.ctl_legal, h.txreq_of_state, h.resp_empty, h.resp_length, fun _ => hw, h.calV_written⟩
  · exact h

/-! ### The STATUS half -/

/-- STATUS and STATE are all that the STATUS half reads. -/
theorem State.StatusInv.of_eq {s t : State} (h : s.StatusInv) (hs : t.status = s.status) (hc : t.ctl = s.ctl) :
    t.StatusInv := by
  have hb : t.busy = s.busy := by rw [State.busy, State.busy, hc]
  constructor <;> simp only [hs, hc, hb]
  exacts [h.result_legal, h.step_legal, h.zeroInput_legal, h.busy_none, h.lastCmd_of_state, h.step_of_result,
    h.step_of_lastCmd, h.zeroInput_of_result, h.domainError_configure, h.calIndet_iff, h.calValid_running]

/-- While a command runs, its report is clear (R26, R257). -/
theorem State.StatusInv.running {s : State} (h : s.StatusInv) (hc : s.ctl ≠ Ctl.idle) :
    s.status.result = ResultCode.none ∧ s.status.step = 0 ∧ s.status.zeroInput = 0 ∧ s.status.calIndet = false := by
  have hr := h.busy_none (busy_iff.mpr hc)
  refine ⟨hr, h.step_of_result (by rw [hr]; decide), h.zeroInput_of_result (by rw [hr]; decide), ?_⟩
  rw [← Bool.not_eq_true, h.calIndet_iff, hr]
  simp

/-- From one calibration state to another the STATUS fields stay in agreement (R210). -/
theorem State.StatusInv.calibrating {s t : State} (h : s.StatusInv) (hs : t.status = s.status)
    (hc : 2 ≤ s.ctl.toNat) (hc' : 2 ≤ t.ctl.toNat) : t.StatusInv := by
  have hb : s.busy = true := busy_iff.mpr fun e => by simp [e] at hc
  have hlast : s.status.lastCmd = true := (h.lastCmd_of_state hb).mpr fun e => by simp [e] at hc
  have hw' : t.ctl ≠ Ctl.cfgWrite := fun e => by simp [e] at hc'
  constructor <;> simp only [hs]
  exacts [h.result_legal, h.step_legal, h.zeroInput_legal, fun _ => h.busy_none hb,
    fun _ => iff_of_true hlast hw', h.step_of_result,
    h.step_of_lastCmd, h.zeroInput_of_result, h.domainError_configure, h.calIndet_iff,
    fun _ => h.calValid_running hb]

/-- The zero check reports one of the six inputs (R28, R111). -/
theorem firstZero_eq_some {l : List Word} {j k : BitVec 3} (h : firstZero j l = some k) :
    ∃ i, i < l.length ∧ k = j + BitVec.ofNat 3 i := by
  induction l generalizing j with
  | nil => cases h
  | cons x xs ih =>
    simp only [firstZero] at h
    split at h
    · cases h; exact ⟨0, by simp, by simp⟩
    · obtain ⟨i, hi, rfl⟩ := ih h
      exact ⟨i + 1, by simpa using hi, by rw [BitVec.ofNat_add, BitVec.add_assoc, BitVec.add_comm 1]; rfl⟩

theorem dchk_le_five {r : Request} {k : BitVec 3} (h : dchk r = some k) : k.toNat ≤ 5 := by
  obtain ⟨i, hi, rfl⟩ := firstZero_eq_some h
  have hi : i < 6 := hi
  rw [show (0 : BitVec 3) + BitVec.ofNat 3 i = BitVec.ofNat 3 i from BitVec.zero_add _, BitVec.toNat_ofNat]
  omega

/-- The codes of a failure: STEP is 0 for the configuration write alone, and CAL_INDET is for steps 2 to 4 (R27,
R236). -/
theorem failure_codes {st : BitVec 4} {code : BitVec 3} {indet : Bool} (h : (st, code, indet) ∈ errorReports) :
    st ≠ Ctl.idle ∧ code.toNat ≤ 5 ∧ (st ≠ Ctl.cfgWrite ↔ code ≠ 0) ∧
      (indet = true ↔ 2 ≤ code.toNat ∧ code.toNat ≤ 4) := by
  revert st code indet; decide

theorem State.StatusInv.moves {s t : State} (h : s.StatusInv) (m : Moves s t) : t.StatusInv := by
  cases m with
  | stay => exact h
  | setInput a d _ ht => rw [setInput_frame ht]; exact h.withOutsideOf t
  | hostRead a r _ => rw [hostRead_frame]; exact h.withOutsideOf _
  | issue q _ _ => exact h.of_eq rfl rfl
  | rdctrlOk v hc _ _ => exact h.calibrating rfl (by simp [hc]) (by simp)
  | writeOk st w hw hc _ _ =>
    obtain ⟨hst, hw⟩ := wait_entries_calibrate hw
    exact h.calibrating rfl (by rw [hc]; omega) (show 2 ≤ w.toNat by omega)
  | leave st w hw hc _ =>
    obtain ⟨hst, hw⟩ := wait_ends_calibrate hw
    exact h.calibrating rfl (by rw [hc]; omega) (show 2 ≤ w.toNat by omega)
  | plan _ _ => constructor <;> simp
  | calibrate _ => constructor <;> simp
  | domainError k _ hk =>
    have hk := dchk_le_five hk
    constructor <;> simp [State.busy, hk]
  | cfgOk hc _ _ =>
    obtain ⟨-, hs, hz, hi⟩ := h.running (by simp [hc])
    constructor <;> simp [State.busy, hs, hz, hi]
  | rdresOk v hc _ _ =>
    obtain ⟨-, hs, hz, hi⟩ := h.running (by simp [hc])
    constructor <;> simp [State.busy, hs, hz, hi]
  | fail st code indet hf hc _ _ =>
    obtain ⟨hst, hcode, hcfg, hindet⟩ := failure_codes hf
    obtain ⟨-, -, hz, hi⟩ := h.running (hc ▸ hst)
    have hlast := h.lastCmd_of_state (busy_iff.mpr (hc ▸ hst))
    rw [hc, hcfg] at hlast
    constructor <;> simp [State.busy, hz, hi, hcode, hlast, hindet]

/-! ### The data half -/

/-- The data half with the results as they were: what is left to check are the calibration registers, the flags and
STATE. -/
theorem State.DataInv.of_results {s t : State} (h : s.DataInv) (hres : s.keepsResults t)
    (hband : t.vcoBand.val = t.calS.val.extractLsb' 3 5) (hwritten : t.calS.written = t.vcoBand.written)
    (hplan : t.status.planValid = true → s.status.planValid = true)
    (hvalid : t.status.calValid = true → t.calS.written = true)
    (hcfg : t.ctl = Ctl.cfgWrite → t.status.planValid = true) : t.DataInv := by
  obtain ⟨hfb, hsd, h1, h2, h3, h4, hiw, him⟩ := hres
  have hp : t.storedPlan = s.storedPlan := by simp only [State.storedPlan, hfb, hsd, h1, h2, h3, h4]
  refine ⟨?_, ?_, ?_, ?_, ?_, ?_, hband, hwritten, hvalid, hcfg⟩ <;> simp only [him, hiw, hfb, hsd, h1, h2, h3, h4, hp]
  exacts [h.image_wf, h.image_start, h.image_of_plan, h.results_written, fun hv => h.planValid_written (hplan hv),
    h.sd_of_fb]

/-- The data half where the flags and the calibration registers are as they were too, and CFG_WRITE is not entered. -/
theorem State.DataInv.of_frame {s t : State} (h : s.DataInv) (hres : s.keepsResults t)
    (hcal : t.calS = s.calS ∧ t.vcoBand = s.vcoBand)
    (hstatus : t.status.planValid = s.status.planValid ∧ t.status.calValid = s.status.calValid)
    (hctl : t.ctl = s.ctl ∨ t.ctl ≠ Ctl.cfgWrite) : t.DataInv := by
  obtain ⟨hcs, hvb⟩ := hcal
  obtain ⟨hp, hv⟩ := hstatus
  refine h.of_results hres ?_ ?_ (hp ▸ id) ?_ ?_
  · rw [hcs, hvb]; exact h.band_of_calS
  · rw [hcs, hvb]; exact h.calS_written
  · rw [hcs, hv]; exact h.calValid_written
  · intro hc
    rw [hp]
    exact h.cfgWrite_planned (hctl.elim (fun e => e ▸ hc) (absurd hc))

/-- Storing the plan of a request, as an accepted CONFIGURE does, keeps the data half (R158, R185). -/
theorem State.DataInv.storePlan {s : State} (h : s.DataInv) (r : Request) :
    ((s.storePlan r.plan).enterCfgWrite).DataInv := by
  have hr := Memory.rising_of_wf h.image_wf
  have him : (s.storePlan r.plan).enterCfgWrite.image = Memory.writeBytes 0 (packBytes chip r.plan) s.image := by simp
  refine ⟨?_, ?_, fun _ => ?_, by simp, by simp, rfl, h.band_of_calS, h.calS_written, h.calValid_written, by simp⟩ <;>
    rw [him]
  · exact Memory.wf_writeBytes h.image_wf (by simp)
  · exact Memory.read_build hr chip _ (by decide)
  · exact Memory.imageBytes_build hr chip _

theorem State.DataInv.moves {s t : State} (h : s.DataInv) (m : Moves s t) : t.DataInv := by
  have same := s.keepsResults_refl
  cases m with
  | stay => exact h
  | setInput a d _ ht => rw [setInput_frame ht]; exact h.withOutsideOf t
  | hostRead a r _ => rw [hostRead_frame]; exact h.withOutsideOf _
  | plan _ _ =>
    refine State.DataInv.storePlan (s := s.noteInputs.acceptCommand false) ?_ s.request
    exact h.of_frame (by simp [State.keepsResults]) (by simp) (by simp) (by simp)
  | issue q _ _ => exact h.of_frame same (by simp) (by simp) (by simp)
  | rdctrlOk v _ _ _ => exact h.of_frame same (by simp) (by simp) (by simp)
  | writeOk st w hw _ _ _ =>
    have hne : w ≠ Ctl.cfgWrite := fun e => by simpa [e] using (wait_entries_calibrate hw).2
    exact h.of_frame same (by simp) (by simp) (.inr hne)
  | leave st w hw _ _ =>
    have hne : w ≠ Ctl.cfgWrite := fun e => by simpa [e] using (wait_ends_calibrate hw).2
    exact h.of_frame same (by simp) (by simp) (.inr hne)
  | fail st code indet _ _ _ _ => exact h.of_frame same (by simp) (by simp) (by simp)
  | cfgOk _ _ _ => exact h.of_frame same (by simp) (by simp) (by simp)
  | calibrate _ => exact h.of_results same h.band_of_calS h.calS_written id (by simp) (by simp)
  | domainError k _ _ =>
    exact h.of_results (by simp [State.keepsResults]) (by simpa using h.band_of_calS) (by simpa using h.calS_written)
      (by simp) (by simpa using h.calValid_written) (by simp)
  | rdresOk v _ _ _ => exact h.of_results same (by simp) (by simp) id (by simp) (by simp)

/-! ### Every step -/

theorem State.Inv.moves {s t : State} (h : s.Inv) (m : Moves s t) : t.Inv :=
  ⟨h.control.moves m, h.status.moves m, h.data.moves m⟩

theorem State.Inv.transportTurn {s : State} (h : s.Inv) (d : Draw) : (s.transportTurn d).Inv := by
  refine ⟨h.control.transportTurn d, ?_, ?_⟩ <;> rw [transportTurn_frame]
  · exact h.status.of_eq rfl rfl
  · exact h.data.of_frame s.keepsResults_refl ⟨rfl, rfl⟩ ⟨rfl, rfl⟩ (.inl rfl)

theorem State.Inv.timeTurn {s : State} (h : s.Inv) : s.timeTurn.Inv := by
  refine ⟨h.control.timeTurn, ?_, ?_⟩ <;> rw [timeTurn_frame]
  · exact h.status.of_eq rfl rfl
  · exact h.data.of_frame s.keepsResults_refl ⟨rfl, rfl⟩ ⟨rfl, rfl⟩ (.inl rfl)

theorem State.Inv.popped {s : State} (h : s.Inv) : s.popped.Inv := h.withOutsideOf s.popped

/-- Settles O3: the reset state is quiet, its report is clear, and its image is the empty memory. -/
theorem resetMeetsTheInvariant : Obligations.ResetMeetsTheInvariant where
  control := controlInv_of_quiet rfl rfl rfl (by decide) (by decide)
  status := by constructor <;> decide
  data := ⟨rfl, rfl, by decide, by decide, by decide, by decide, by decide, rfl, by decide, by decide⟩

/-- A reset leaves the reset state, with what is not the block's as it was (R281). -/
theorem State.Inv.resetTurn (s : State) : s.resetTurn.Inv :=
  State.Inv.withOutsideOf resetMeetsTheInvariant
    { State.reset with agenda := s.agenda, hostData := s.hostData, unwrittenRead := s.unwrittenRead }

/-- Settles O4: the four kinds of step each keep the invariant. -/
theorem everyStepKeepsTheInvariant : Obligations.EveryStepKeepsTheInvariant := by
  intro s t h hst
  obtain ⟨-, rfl⟩ | ⟨-, -, ⟨d, -, rfl⟩ | ⟨-, rfl⟩ | ⟨-, hm⟩⟩ := step_cases hst
  · exact State.Inv.resetTurn s.popped
  · exact h.popped.transportTurn d
  · exact h.popped.timeTurn
  · exact h.popped.moves hm

end Sys2Proof.Machine
end

section
/-! What each kind of turn runs: the presented form, the step that the block's registers select (R83), the transport's
answer (R193), the end of a delay (R262), a reset (R281), and a word of the opcode table (log 6). -/

namespace Sys2Proof.Machine

/-- Settles O8: the presented form is fetched and decoded. -/
theorem stepRunsThePresentedInstruction : Obligations.StepRunsThePresentedInstruction :=
  fun _ _ _ _ => step_present_ok

/-! ### The block's turn -/

/-- The byte of a control step decodes to the step that its fields select (R83; log 5). -/
theorem decode_encodeStep (c : BitVec 4) (txp ready texp : Bool) :
    decode (encodeStep c txp ready texp) = selectStep c txp ready texp := by
  have key : ∀ (c : BitVec 4) (a b d : Bool), decodeControlStep [controlStepByte c a b d] = selectStep c a b d := by
    decide
  exact key c txp ready texp

/-- On the block's turn, given or for want of another, the machine fetches the control step of its registers (R83;
log 4). -/
theorem fetch_block {s : State} {rest : List Turn} (ha : s.agenda = .block :: rest ∨ (s.agenda = [] ∧ rest = [])) :
    s.fetch = .instr s.controlStep { s with agenda := rest } := by
  rcases ha with ha | ⟨ha, rfl⟩ <;> simp only [State.fetch, ha]
  rw [← ha]

section
variable {s : State} {rest : List Turn} (ha : s.agenda = .block :: rest ∨ (s.agenda = [] ∧ rest = []))
include ha

theorem step_block_ok {i : Instr} (hi : selectStep s.ctl s.txp (s.resp != .empty) s.texp = .ok i) :
    step s = exec i { s with agenda := rest } := by
  simp only [step, fetch_block ha, decode_controlStep, hi]

/-- Where the block has no step, its turn is only consumed (R83; log 4). -/
theorem step_block_none {why : DecodeError} (hi : selectStep s.ctl s.txp (s.resp != .empty) s.texp = .error why)
    (hw : why = .blockIdle ∨ why = .blockHolds) : step s = .next { s with agenda := rest } := by
  simp only [step, fetch_block ha, decode_controlStep, hi]
  rcases hw with rfl | rfl <;> rfl

end

/-- In a transaction state TXP and RESP select between its two steps (R83). -/
theorem selectStep_transaction {st : BitVec 4} {issue done : Instr} (h : (st, issue, done) ∈ transactionSteps)
    (txp ready texp : Bool) : selectStep st txp ready texp = transactionStep txp ready issue done := by
  simp only [transactionSteps, List.mem_cons, Prod.mk.injEq, List.not_mem_nil, or_false] at h
  rcases h with ⟨rfl, rfl, rfl⟩ | ⟨rfl, rfl, rfl⟩ | ⟨rfl, rfl, rfl⟩ | ⟨rfl, rfl, rfl⟩ | ⟨rfl, rfl, rfl⟩ |
    ⟨rfl, rfl, rfl⟩ <;> rfl

/-- In a wait state TEXP alone selects (R83). -/
theorem selectStep_wait {st after : BitVec 4} {leave : Instr} (h : (st, leave, after) ∈ waitSteps)
    (txp ready texp : Bool) : selectStep st txp ready texp = waitStep texp leave := by
  simp only [waitSteps, List.mem_cons, Prod.mk.injEq, List.not_mem_nil, or_false] at h
  rcases h with ⟨rfl, rfl, rfl⟩ | ⟨rfl, rfl, rfl⟩ | ⟨rfl, rfl, rfl⟩ <;> rfl

/-- Settles O9: the selection, state by state, is what the block's turn runs. -/
theorem blockStepIsSelectedByItsRegisters : Obligations.BlockStepIsSelectedByItsRegisters := by
  intro s rest ha
  refine ⟨fun hc => step_block_none ha (by rw [hc]; rfl) (.inl rfl), fun st issue done h hc => ⟨fun hp => ?_,
    fun hp hr => ?_, fun hp hr => ?_⟩, fun st leave after h hc => ⟨fun ht => ?_, fun ht => ?_⟩⟩
  · exact step_block_ok ha (by rw [hc, selectStep_transaction h, hp]; rfl)
  · exact step_block_ok ha (by rw [hc, selectStep_transaction h, hp, bne_iff_ne.mpr hr]; rfl)
  · exact step_block_none ha (by rw [hc, selectStep_transaction h, hp, hr]; rfl) (.inr rfl)
  · exact step_block_ok ha (by rw [hc, selectStep_wait h, ht]; rfl)
  · exact step_block_none ha (by rw [hc, selectStep_wait h, ht]; rfl) (.inr rfl)

/-! ### The turns of the transport, of time and of reset -/

theorem step_transport {s : State} {rest : List Turn} {d : Draw} (ha : s.agenda = .transport d :: rest)
    (hc : s.ctl.toNat ≤ 9) : step s = .next (State.transportTurn { s with agenda := rest } d) := by
  simp only [step, State.fetch, ha, show ¬ 10 ≤ s.ctl.toNat by omega, if_false]

theorem step_time {s : State} {rest : List Turn} (ha : s.agenda = .time :: rest) (hc : s.ctl.toNat ≤ 9) :
    step s = .next (State.timeTurn { s with agenda := rest }) := by
  simp only [step, State.fetch, ha, show ¬ 10 ≤ s.ctl.toNat by omega, if_false]

theorem step_reset {s : State} {rest : List Turn} (ha : s.agenda = .reset :: rest) :
    step s = .next (State.resetTurn { s with agenda := rest }) := by
  simp only [step, State.fetch, ha]

/-- Settles O30: the transport's turn is enabled or not, and its answer goes by the draw and the kind of the request. -/
theorem transportAnswersTheOutstandingRequest : Obligations.TransportAnswersTheOutstandingRequest := by
  intro s rest d ha hc
  rw [step_transport ha hc]
  refine ⟨fun h => congrArg _ (if_neg h), fun hp hr => ?_⟩
  have answered : State.transportTurn { s with agenda := rest } d =
      { s with agenda := rest, resp := d.answer s.txreq } := if_pos ⟨hp, hr⟩
  rw [answered]
  exact ⟨fun hd => by rw [hd]; rfl, fun b hd hk => by simp [hd, Draw.answer, TxReq.rlen, hk],
    fun b hd hk => by simp [hd, Draw.answer, TxReq.rlen, hk]⟩

/-- Settles O31: the turn of time is enabled or not. -/
theorem timeEndsTheSettleDelay : Obligations.TimeEndsTheSettleDelay := by
  intro s rest ha hc
  rw [step_time ha hc]
  exact ⟨fun hw ht => congrArg _ (if_pos ⟨hw, ht⟩), fun h => congrArg _ (if_neg h)⟩

/-- Every register of the block is marked unwritten or at its reset value after a reset (R39, R281). -/
theorem resetTurn_atResetValues (s : State) : s.resetTurn.AtResetValues :=
  have hword : s.resetTurn.statusWord = 0 := show State.reset.statusWord = 0 by decide
  ⟨rfl, rfl, rfl, rfl, rfl, rfl, rfl, rfl, rfl, rfl, rfl, rfl, rfl, rfl, rfl, rfl, rfl, rfl, rfl, hword, rfl, rfl, rfl⟩

/-- Settles O2: the reset turn is taken in every state. -/
theorem resetTurnAbandonsWhateverRuns : Obligations.ResetTurnAbandonsWhateverRuns :=
  fun _ _ ha => ⟨_, step_reset ha, resetTurn_atResetValues _, rfl, rfl, rfl⟩

/-! ### IDLE -/

/-- In IDLE with nothing outstanding, an instruction that goes on and is no command leaves STATE, TXP and TXREQ: the
host's accesses change other registers, and every other row belongs to another state (R30, R86). -/
theorem exec_idle_quiet {i : Instr} {s t : State} (hc : s.ctl = 0) (hp : s.txp = false) (h : exec i s = .next t)
    (hw : ∀ d, i ≠ .hwrCmd d) (hn : i ≠ .cmdNop) (hcfg : i ≠ .cmdConfigure) (hcal : i ≠ .cmdCalibrate) :
    t.ctl = 0 ∧ t.txp = false ∧ t.txreq = s.txreq := by
  cases i with
  | hwrIn a d =>
    simp only [exec, execHwrIn] at h
    split at h
    · next hs =>
      cases h
      exact ⟨(setInput_ctl hs).trans hc, (setInput_txp hs).trans hp, setInput_txreq hs⟩
    · cases h
  | hrd a =>
    simp only [exec, execHrd] at h
    split at h
    · cases h
      split <;> exact ⟨hc, hp, rfl⟩
    · cases h
  | hwrCmd d => exact absurd rfl (hw d)
  | cmdNop => exact absurd rfl hn
  | cmdConfigure => exact absurd rfl hcfg
  | cmdCalibrate => exact absurd rfl hcal
  | cmdRsvd => rw [exec_cmdRsvd_idle hc] at h; cases h
  | stepRsvd code => cases h
  | stepCfgIssue | stepRdctrlIssue | stepClr1Issue | stepSetIssue | stepClr2Issue | stepRdresIssue =>
    have hst := (issueStep_next h).1
    exact absurd (hc.symm.trans hst) (by decide)
  | stepCfgDone | stepClr1Done | stepSetDone | stepClr2Done =>
    simp only [exec, execStepCfgDone, execStepClr1Done, execStepSetDone, execStepClr2Done] at h
    have hst := (completeWrite_next h).1
    exact absurd (hc.symm.trans hst) (by decide)
  | stepRdctrlDone | stepRdresDone =>
    simp only [exec, execStepRdctrlDone, execStepRdresDone] at h
    have hst := (completeRead_next h).1
    exact absurd (hc.symm.trans hst) (by decide)
  | stepWait1 | stepWait2 | stepWait3 =>
    have hst := (leaveWait_next h).1
    exact absurd (hc.symm.trans hst) (by decide)
  | txCfg _ | txRdctrl | txClr1 _ | txSet _ | txClr2 _ | txRdres =>
    simp only [exec, execTxCfg, execTxRdctrl, execTxClr1, execTxSet, execTxClr2, execTxRdres] at h
    obtain ⟨-, hst, -⟩ := issueTransaction_next h
    exact absurd (hc.symm.trans hst) (by decide)

/-- Settles O1: in IDLE the block has no step, nothing is outstanding for the transport, and no delay runs. -/
theorem resetPutsEveryRegisterAtItsResetValue : Obligations.ResetPutsEveryRegisterAtItsResetValue := by
  refine ⟨resetTurn_atResetValues State.reset, rfl, fun s hc hp => ⟨fun turn rest ha hturn => ?_,
    fun i t => exec_idle_quiet hc hp⟩⟩
  have hlegal : s.ctl.toNat ≤ 9 := by rw [hc]; decide
  rcases hturn with rfl | rfl | ⟨d, rfl⟩
  · exact (blockStepIsSelectedByItsRegisters s rest (.inl ha)).1 hc
  · exact (timeEndsTheSettleDelay s rest ha hlegal).2 (by simp [hc, waitState])
  · exact (transportAnswersTheOutstandingRequest s rest d ha hlegal).1 (by simp [hp])

/-! ### Words of the opcode table -/

/-- No candidate of a table word is presented in a reserved state, and its control steps are the STEP rows (log 6). -/
theorem tableCandidates_legal {nbits w : Nat} {e : Encoded} (h : e ∈ tableCandidates nbits w) :
    e.issuedIn.toNat ≤ 9 ∧ (e.form = .controlStep → e = tableStep w) := by
  unfold tableCandidates at h
  split at h <;>
    simp only [List.mem_append, List.mem_ite_nil_right, List.mem_cons, List.not_mem_nil, or_false] at h
  · obtain ⟨-, rfl⟩ | rfl | rfl | rfl | rfl := h
    · exact ⟨Nat.zero_le 9, fun _ => rfl⟩
    all_goals exact ⟨by simp, nofun⟩
  · obtain rfl | rfl | rfl | rfl := h <;> exact ⟨by simp, nofun⟩
  · subst h
    exact ⟨Nat.zero_le 9, nofun⟩
  · subst h
    exact ⟨by simp, nofun⟩

/-- A decoded table word is one of its candidates, decoded. -/
theorem tableEncoded_of_decodeTableWord {nbits w : Nat} {i : Instr} (h : decodeTableWord nbits w = some i) :
    ∃ e, tableEncoded nbits w = some e ∧ e ∈ tableCandidates nbits w ∧ decode e = .ok i := by
  unfold decodeTableWord at h
  cases he : tableEncoded nbits w with
  | none => rw [he] at h; cases h
  | some e =>
    rw [he] at h
    refine ⟨e, rfl, List.mem_of_find?_eq_some he, ?_⟩
    cases hd : decode e with
    | error why => simp [hd, Except.toOption] at h
    | ok j => simpa [hd, Except.toOption] using h

/-- A form that is no control step is placed as the next turn (log 6). -/
theorem place_agenda {e : Encoded} (hf : e.form ≠ .controlStep) (s : State) :
    (s.place e).agenda = .present e :: s.agenda := by
  unfold State.place
  split
  · rfl
  · rfl
  · rfl
  · next h => exact absurd h hf
  · dsimp only
    split <;> rfl
  · rfl

/-- A form that is no control step is placed in the state as it is or in the state that issues it. -/
theorem place_ctl {e : Encoded} (hf : e.form ≠ .controlStep) (s : State) :
    (s.place e).ctl = s.ctl ∨ (s.place e).ctl = e.issuedIn := by
  unfold State.place
  split
  · exact .inl rfl
  · exact .inl rfl
  · exact .inl rfl
  · next h => exact absurd h hf
  · dsimp only
    split <;> exact .inr rfl
  · exact .inr rfl

/-- A STEP row is placed by its STATE, with TXP = 0 and, in a wait state, TEXP = 1 (log 6). -/
theorem place_tableStep (s : State) (w : Nat) :
    s.place (tableStep w) = { s with
      ctl := BitVec.ofNat 4 w, txp := false, agenda := .block :: s.agenda
      texp := if waitState (BitVec.ofNat 4 w) then true else s.texp } := by
  have key : ∀ (c : BitVec 4), (controlStepByte c false false (waitState c)).extractLsb' 0 4 = c ∧
      (controlStepByte c false false (waitState c)).getLsbD 4 = false ∧
      (controlStepByte c false false (waitState c)).getLsbD 6 = waitState c := by decide
  obtain ⟨hctl, htxp, htexp⟩ := key (BitVec.ofNat 4 w)
  simp only [State.place, tableStep, encodeStep, List.headD_cons, hctl, htxp, htexp]
  split <;> simp [*]

/-- With TXP = 0, RESP does not matter, nor TEXP outside the wait states (R83). -/
theorem selectStep_placed (c : BitVec 4) (ready texp : Bool) :
    selectStep c false ready (if waitState c then true else texp) = selectStep c false false (waitState c) := by
  revert c ready texp
  decide

/-- A placed STEP row is the step that the placed registers select. -/
theorem step_place_tableStep {s : State} {w : Nat} {i : Instr} (hd : decode (tableStep w) = .ok i) :
    step (s.place (tableStep w)) = exec i { s.place (tableStep w) with agenda := s.agenda } := by
  rw [tableStep, decode_encodeStep] at hd
  rw [place_tableStep]
  exact step_block_ok (.inl rfl) ((selectStep_placed _ _ _).trans hd)

/-- Settles O10: a candidate is placed as a presented form, or as the block's own step. -/
theorem tableWordsRunAsTheNextStep : Obligations.TableWordsRunAsTheNextStep := by
  intro s nbits w i hs h
  obtain ⟨e, he, hmem, hd⟩ := tableEncoded_of_decodeTableWord h
  obtain ⟨hissued, hstep⟩ := tableCandidates_legal hmem
  rw [show s.withFetchWord nbits w = s.place e by simp only [State.withFetchWord, he]]
  by_cases hf : e.form = .controlStep
  · rw [hstep hf] at hd ⊢
    exact step_place_tableStep hd
  · refine step_present_ok (place_agenda hf s) ?_ hd
    rcases place_ctl hf s with hc | hc <;> rw [hc] <;> assumption

end Sys2Proof.Machine
end

section
/-! The two round trips of the encodings (R80 to R87): what is encoded decodes to itself, and what decodes is encoded
as it was read. -/

namespace Sys2Proof.Machine

/-! ### Words and payloads as bytes -/

/-- Four bytes, read as a word, are that word's bytes, least significant first (log 5). -/
theorem wordBytes_wordOfBytes (d0 d1 d2 d3 : Byte) : wordBytes (wordOfBytes d0 d1 d2 d3) = [d0, d1, d2, d3] := by
  have byte : ∀ {k : Nat} {b : Byte}, (∀ i, i < 8 → (wordOfBytes d0 d1 d2 d3).getLsbD (k + i) = b.getLsbD i) →
      (wordOfBytes d0 d1 d2 d3).extractLsb' k 8 = b := fun h =>
    BitVec.eq_of_getLsbD_eq fun i hi => by simpa [hi] using h i hi
  simp only [wordBytes, List.cons.injEq, and_true]
  refine ⟨byte fun i hi => ?_, byte fun i hi => ?_, byte fun i hi => ?_, byte fun i hi => ?_⟩ <;>
    (simp only [wordOfBytes, BitVec.getLsbD_append]; interval_cases i <;> rfl)

/-- The payload of a calibration write is its top bit and its seven low bits (R86). -/
theorem top_append_low (b : Byte) : BitVec.ofBool (b.getLsbD 7) ++ b.extractLsb' 0 7 = b := by
  revert b; decide

theorem low_of_append (top : Bool) (v : BitVec 7) :
    (BitVec.ofBool top ++ v).getLsbD 7 = top ∧ (BitVec.ofBool top ++ v).extractLsb' 0 7 = v := by
  revert top v; decide

/-! ### Decoding what was encoded -/

/-- The states of the calibration writes, with the top bit of each and its row (R86). -/
def calWrites : List (BitVec 4 × Bool × (BitVec 7 → Instr)) :=
  [(3, false, .txClr1), (5, true, .txSet), (7, false, .txClr2)]

theorem decodeCalWrite_append {st : BitVec 4} {top : Bool} {row : BitVec 7 → Instr}
    (h : (st, top, row) ∈ calWrites) (v : BitVec 7) :
    decodeCalWrite st (BitVec.ofBool top ++ v) = .ok (row v) := by
  obtain ⟨htop, hlow⟩ := low_of_append top v
  simp only [calWrites, List.mem_cons, Prod.mk.injEq, List.not_mem_nil, or_false] at h
  rcases h with ⟨rfl, rfl, rfl⟩ | ⟨rfl, rfl, rfl⟩ | ⟨rfl, rfl, rfl⟩ <;>
    simp only [decodeCalWrite, htop, hlow] <;> rfl

theorem decodeBusWrite_cfg {payload : List Byte} (h : payload.length = 106) :
    decodeBusWrite 1 (0x00 :: payload) = .ok (.txCfg payload) := by
  unfold decodeBusWrite
  split
  · next hb => simp [List.cons.inj hb] at h
  · next hb =>
    obtain ⟨rfl, rfl⟩ := List.cons.inj hb
    exact if_pos ⟨rfl, rfl, h⟩
  · next hb => cases hb

/-- Settles O5: the operands come back from their bytes, and the rows without operands by computation. -/
theorem decodeOfEncodeGivesTheInstruction : Obligations.DecodeOfEncodeGivesTheInstruction := by
  intro i hwf
  have step : ∀ {c txp ready texp j}, selectStep c txp ready texp = .ok j →
      decode (encodeStep c txp ready texp) = .ok j := fun h => (decode_encodeStep _ _ _ _).trans h
  cases i with
  | hwrIn a d =>
    have ha : inputAddress a = true := hwf
    simp only [encode, decode, wordBytes, decodeHostWrite, wordOfBytes_wordBytes, ha, if_true]
  | hwrCmd d => exact decodeHostWrite_cmd d
  | hrd a => exact if_pos hwf
  | cmdNop => rfl
  | cmdConfigure => rfl
  | cmdCalibrate => rfl
  | cmdRsvd => rfl
  | stepCfgIssue => exact step rfl
  | stepCfgDone => exact step rfl
  | stepRdctrlIssue => exact step rfl
  | stepRdctrlDone => exact step rfl
  | stepClr1Issue => exact step rfl
  | stepClr1Done => exact step rfl
  | stepWait1 => exact step rfl
  | stepSetIssue => exact step rfl
  | stepSetDone => exact step rfl
  | stepWait2 => exact step rfl
  | stepClr2Issue => exact step rfl
  | stepClr2Done => exact step rfl
  | stepWait3 => exact step rfl
  | stepRdresIssue => exact step rfl
  | stepRdresDone => exact step rfl
  | stepRsvd code => exact step (selectStep_reserved (by simpa [Instr.wellFormed] using hwf) _ _ _)
  | txCfg payload => exact decodeBusWrite_cfg (by simpa [Instr.wellFormed] using hwf)
  | txRdctrl => rfl
  | txClr1 v => exact decodeCalWrite_append (st := 3) (top := false) (by simp [calWrites]) v
  | txSet v => exact decodeCalWrite_append (st := 5) (top := true) (by simp [calWrites]) v
  | txClr2 v => exact decodeCalWrite_append (st := 7) (top := false) (by simp [calWrites]) v
  | txRdres => rfl

/-! ### Encoding what was decoded -/

theorem decodeHostWrite_eq_ok {bytes : List Byte} {i : Instr} (h : decodeHostWrite bytes = .ok i) :
    ∃ a d, bytes = a :: wordBytes d ∧ ((inputAddress a = true ∧ i = .hwrIn a d) ∨ (a = 0x06 ∧ i = .hwrCmd d)) := by
  unfold decodeHostWrite at h
  split at h
  · next a d0 d1 d2 d3 =>
    refine ⟨a, wordOfBytes d0 d1 d2 d3, by rw [wordBytes_wordOfBytes], ?_⟩
    split at h
    · next ha => exact .inl ⟨ha, by cases h; rfl⟩
    · split at h
      · next ha => exact .inr ⟨ha, by cases h; rfl⟩
      · cases h
  · cases h

theorem decodeHostRead_eq_ok {bytes : List Byte} {i : Instr} (h : decodeHostRead bytes = .ok i) :
    ∃ a, bytes = [a] ∧ readableAddress a = true ∧ i = .hrd a := by
  unfold decodeHostRead at h
  split at h
  · next a =>
    split at h
    · next ha => exact ⟨a, rfl, ha, by cases h; rfl⟩
    · cases h
  · cases h

theorem toNat_lt_four_of_reservedBits {d : Word} (h : d.extractLsb' 2 30 = 0) : d.toNat < 4 := by
  have hfield : (d.extractLsb' 2 30).toNat = 0 := by rw [h]; rfl
  rw [BitVec.extractLsb'_toNat, Nat.shiftRight_eq_div_pow] at hfield
  omega

theorem decodeCmd_of_row {d : Word} {i : Instr} (h : (d, i) ∈ commandRows) : decodeCmd d = .ok i := by
  obtain ⟨rfl, rfl⟩ | ⟨rfl, rfl⟩ | ⟨rfl, rfl⟩ | ⟨rfl, rfl⟩ := mem_commandRows.mp h <;> rfl

/-- Only the words of the four rows decode as commands (R82). -/
theorem decodeCmd_eq_ok {d : Word} {i : Instr} (h : decodeCmd d = .ok i) : (d, i) ∈ commandRows := by
  by_cases hres : d.extractLsb' 2 30 = 0
  · obtain ⟨j, hj⟩ := exists_commandRow (toNat_lt_four_of_reservedBits hres)
    rw [decodeCmd_of_row hj] at h
    cases h
    exact hj
  · rw [decodeCmd, if_neg hres] at h
    cases h

theorem decodeCmdWord_eq_ok {bytes : List Byte} {i : Instr} (h : decodeCmdWord bytes = .ok i) :
    ∃ d, bytes = wordBytes d ∧ (d, i) ∈ commandRows := by
  unfold decodeCmdWord at h
  split at h
  · exact ⟨_, (wordBytes_wordOfBytes _ _ _ _).symm, decodeCmd_eq_ok h⟩
  · cases h

theorem encode_commandRow {d : Word} {i : Instr} (h : (d, i) ∈ commandRows) :
    i.wellFormed = true ∧ encode i = encodeCmd d := by
  obtain ⟨rfl, rfl⟩ | ⟨rfl, rfl⟩ | ⟨rfl, rfl⟩ | ⟨rfl, rfl⟩ := mem_commandRows.mp h <;> exact ⟨rfl, rfl⟩

/-- The decoder selects only well-formed control steps: STEP_RSVD for the reserved codes alone (R31). -/
theorem decodeControlStep_wellFormed {bytes : List Byte} {i : Instr} (h : decodeControlStep bytes = .ok i) :
    i.wellFormed = true := by
  have key : ∀ (c : BitVec 4) (a b d : Bool), (selectStep c a b d).toOption.all Instr.wellFormed = true := by decide
  unfold decodeControlStep at h
  split at h
  · next b =>
    split at h
    · cases h
    · have hall := key (b.extractLsb' 0 4) (b.getLsbD 4) (b.getLsbD 5) (b.getLsbD 6)
      rwa [h] at hall
  · cases h

theorem decodeCalWrite_eq_ok {st : BitVec 4} {b : Byte} {i : Instr} (h : decodeCalWrite st b = .ok i) :
    i.wellFormed = true ∧ encode i = ⟨.busWrite, st, [0x1C, b]⟩ := by
  have state : ∀ {c : BitVec 4}, st.toNat = c.toNat → st = c := BitVec.eq_of_toNat_eq
  have written : ∀ {top}, b.getLsbD 7 = top →
      (⟨.busWrite, st, [0x1C, BitVec.ofBool top ++ b.extractLsb' 0 7]⟩ : Encoded) = ⟨.busWrite, st, [0x1C, b]⟩ :=
    fun h => by rw [← h, top_append_low]
  unfold decodeCalWrite at h
  split at h <;> cases h
  case h_1 hst htop => rw [← written htop, state (c := 3) hst]; exact ⟨rfl, rfl⟩
  case h_2 hst htop => rw [← written htop, state (c := 5) hst]; exact ⟨rfl, rfl⟩
  case h_3 hst htop => rw [← written htop, state (c := 7) hst]; exact ⟨rfl, rfl⟩

theorem decodeBusWrite_eq_ok {st : BitVec 4} {bytes : List Byte} {i : Instr} (h : decodeBusWrite st bytes = .ok i) :
    i.wellFormed = true ∧ encode i = ⟨.busWrite, st, bytes⟩ := by
  unfold decodeBusWrite at h
  split at h
  · split at h
    · next hr => subst hr; exact decodeCalWrite_eq_ok h
    · cases h
  · split at h
    · next hg =>
      obtain ⟨rfl, rfl, hlen⟩ := hg
      cases h
      exact ⟨by simp [Instr.wellFormed, hlen], rfl⟩
    · cases h
  · cases h

theorem decodeBusWriteRead_eq_ok {st : BitVec 4} {bytes : List Byte} {i : Instr}
    (h : decodeBusWriteRead st bytes = .ok i) : i.wellFormed = true ∧ encode i = ⟨.busWriteRead, st, bytes⟩ := by
  unfold decodeBusWriteRead at h
  split at h
  · next hg => obtain ⟨rfl, rfl⟩ := hg; cases h; exact ⟨rfl, rfl⟩
  · split at h
    · next hg => obtain ⟨rfl, rfl⟩ := hg; cases h; exact ⟨rfl, rfl⟩
    · cases h

/-- Settles O6: form by form, the bytes read are the encoding's. -/
theorem decodedFormsEncodeBack : Obligations.DecodedFormsEncodeBack := by
  rintro ⟨form, st, bytes⟩ i h
  cases form with
  | hostWrite =>
    obtain ⟨a, d, rfl, ⟨ha, rfl⟩ | ⟨rfl, rfl⟩⟩ := decodeHostWrite_eq_ok h
    · exact ⟨ha, fun _ => ⟨rfl, rfl⟩, by simp⟩
    · exact ⟨rfl, fun _ => ⟨rfl, rfl⟩, by simp⟩
  | hostRead =>
    obtain ⟨a, rfl, ha, rfl⟩ := decodeHostRead_eq_ok h
    exact ⟨ha, fun _ => ⟨rfl, rfl⟩, by simp⟩
  | cmdWord =>
    obtain ⟨d, rfl, hrow⟩ := decodeCmdWord_eq_ok h
    obtain ⟨hwf, he⟩ := encode_commandRow hrow
    rw [he]
    exact ⟨hwf, fun _ => ⟨rfl, rfl⟩, by simp⟩
  | controlStep => exact ⟨decodeControlStep_wellFormed h, fun hf => absurd rfl hf, by simp⟩
  | busWrite =>
    obtain ⟨hwf, he⟩ := decodeBusWrite_eq_ok h
    rw [he]
    exact ⟨hwf, fun _ => ⟨rfl, rfl⟩, fun _ => rfl⟩
  | busWriteRead =>
    obtain ⟨hwf, he⟩ := decodeBusWriteRead_eq_ok h
    rw [he]
    exact ⟨hwf, fun _ => ⟨rfl, rfl⟩, fun _ => rfl⟩

/-- Settles O7: the ten words, decoded. -/
theorem wordsOfTheTablesDecode : Obligations.WordsOfTheTablesDecode := by
  unfold Obligations.WordsOfTheTablesDecode
  decide

end Sys2Proof.Machine
end

section
/-! The host's view (R24, R25, R36, R182), the payloads and rows of the transactions (R86, R88), the wait steps (R217 to
R225), and a CONFIGURE with unwritten inputs (log 1). -/

namespace Sys2Proof.Machine

/-! ### STATUS -/

/-- Settles O14: bit by bit, each field lies where the word puts it. -/
theorem statusWordPacksItsFields : Obligations.StatusWordPacksItsFields := by
  intro s
  have field : ∀ {n k : Nat} {x : BitVec n}, (∀ i, i < n → s.statusWord.getLsbD (k + i) = x.getLsbD i) →
      s.statusWord.extractLsb' k n = x := fun h =>
    BitVec.eq_of_getLsbD_eq fun i hi => by simpa [hi] using h i hi
  refine ⟨?_, field fun i hi => ?_, ?_, field fun i hi => ?_, field fun i hi => ?_, ?_, ?_, ?_, field fun i hi => ?_,
    field fun i hi => ?_⟩ <;>
  simp only [State.statusWord, BitVec.getLsbD_append]
  · simp
  · interval_cases i <;> rfl
  · simp
  · interval_cases i <;> rfl
  · interval_cases i <;> rfl
  · simp
  · simp
  · simp
  · interval_cases i <;> rfl
  · interval_cases i <;> rfl

/-! ### Host reads -/

/-- A read of a register answers it, and records that it was unwritten (R182; log 1). -/
theorem readsAs_of_hostRegister {s : State} {a : BitVec 8} {r : Reg 32} (h : s.hostRegister a = some r) :
    s.readsAs a r.val r.written := by
  simp only [State.readsAs, exec, execHrd, h]
  cases r.written <;> rfl

/-- The image bytes are behind the addresses from 0x40 (R36). -/
theorem hostRegister_image (s : State) {i : Nat} (hi : i < 107) :
    s.hostRegister (BitVec.ofNat 8 (0x40 + i)) = some (s.imageRegister i) := by
  have ha : (BitVec.ofNat 8 (0x40 + i)).toNat = 0x40 + i := Nat.mod_eq_of_lt (by omega)
  unfold State.hostRegister
  split <;> try omega
  rw [ha, if_pos (by omega), Nat.add_sub_cancel_left]

/-- Settles O12: each address has its register behind it. -/
theorem hostReadReturnsTheRegister : Obligations.HostReadReturnsTheRegister := by
  intro s
  have read : ∀ {a} (r : Reg 32), s.hostRegister a = some r → s.readsAs a r.val r.written :=
    fun _ => readsAs_of_hostRegister
  exact ⟨read s.refHz rfl, read s.vcoHz rfl, read s.out1Hz rfl, read s.out2Hz rfl, read s.out3Hz rfl, read s.out4Hz rfl,
    read ⟨s.statusWord, true⟩ rfl, read s.fb.lo rfl, read s.fb.hi rfl, read s.od1.lo rfl, read s.od1.hi rfl,
    read s.od2.lo rfl, read s.od2.hi rfl, read s.od3.lo rfl, read s.od3.hi rfl, read s.od4.lo rfl, read s.od4.hi rfl,
    read s.sd.host rfl, read s.calV.host rfl, read s.calS.host rfl, read s.vcoBand.host rfl,
    fun i hi => read (s.imageRegister i) (hostRegister_image s hi)⟩

/-- An input's address has a register to write (R180). -/
theorem exists_setInput {a : BitVec 8} (h : inputAddress a = true) (s : State) (d : Word) :
    ∃ t, s.setInput a d = some t := by
  have ha : a.toNat ≤ 5 := by simpa [inputAddress] using h
  unfold State.setInput
  split
  case h_7 => simp_all; omega
  all_goals exact ⟨_, rfl⟩

/-- Settles O15: readable and input addresses have registers, and a CMD word is refused for its bits or as busy. -/
theorem busyLimitsOnlyCommandWrites : Obligations.BusyLimitsOnlyCommandWrites := by
  intro s
  refine ⟨?_, fun hc => ⟨fun a ha => ?_, fun a d ha => ?_, fun d => ?_⟩⟩
  · rw [(statusWordPacksItsFields s).1, busy_iff]
  · cases hr : s.hostRegister a with
    | none => rw [hostRegister_eq_none_iff, ha] at hr; cases hr
    | some r => exact ⟨_, readsAs_of_hostRegister hr⟩
  · obtain ⟨t, ht⟩ := exists_setInput ha s d
    exact ⟨t, exec_hwrIn_of_setInput ht⟩
  · by_cases hd : d.toNat < 4
    · exact ⟨_, exec_hwrCmd_busy hd hc⟩
    · exact ⟨_, commandWrite_reservedBits (by omega) s⟩

/-! ### The transaction rows -/

/-- Settles O26: the masks leave the seven low bits and fix bit 7. -/
theorem calibrationPayloadsKeepTheLowBits : Obligations.CalibrationPayloadsKeepTheLowBits := by
  unfold Obligations.CalibrationPayloadsKeepTheLowBits
  decide

/-- A byte is a top bit and seven low bits in one way only. -/
theorem append_eq_iff {top : Bool} {v : BitVec 7} {b : Byte} :
    BitVec.ofBool top ++ v = b ↔ b.getLsbD 7 = top ∧ v = b.extractLsb' 0 7 := by
  constructor
  · rintro rfl
    obtain ⟨htop, hlow⟩ := low_of_append top v
    exact ⟨htop, hlow.symm⟩
  · rintro ⟨rfl, rfl⟩
    exact top_append_low b

/-- The seven bits of a row are CAL_V's exactly when the row's payload is the one the block sends (R86, R88). -/
theorem append_eq_clearPayload {v : BitVec 7} {b : Byte} : 0#1 ++ v = clearPayload b ↔ v = b.extractLsb' 0 7 := by
  obtain ⟨htop, -, hlow, -⟩ := calibrationPayloadsKeepTheLowBits b
  exact (append_eq_iff (top := false)).trans (by rw [hlow]; exact and_iff_right htop)

theorem append_eq_setPayload {v : BitVec 7} {b : Byte} : 1#1 ++ v = setPayload b ↔ v = b.extractLsb' 0 7 := by
  obtain ⟨-, htop, -, hlow⟩ := calibrationPayloadsKeepTheLowBits b
  exact (append_eq_iff (top := true)).trans (by rw [hlow]; exact and_iff_right htop)

/-- Two calibration writes with different payloads are different requests. -/
theorem busWrite_payload_inj {b c : Byte} : busWrite [0x1C, b] = busWrite [0x1C, c] ↔ b = c := by
  simp [busWrite]

theorem issueTransaction_sent {st : BitVec 4} {s : State} {sent q : TxReq} (hq : q = sent) (hc : s.ctl = st)
    (hp : s.txp = false) : issueTransaction st sent q s = .next (s.issue q) :=
  (if_pos hq).trans (issueStep_enabled hc hp q)

theorem issueTransaction_other {st : BitVec 4} {s : State} {sent q : TxReq} (hq : q ≠ sent) :
    issueTransaction st sent q s = .refused .notEnabled :=
  if_neg hq

/-- Settles O25: a row is sent where its bytes are the ones the block sends, and refused elsewhere. -/
theorem transactionRowsSendTheirBytes : Obligations.TransactionRowsSendTheirBytes := by
  intro s hp
  refine ⟨fun payload hc him => ?_, fun hc => issueTransaction_sent (q := rdctrlRequest) rfl hc hp,
    fun hc => issueTransaction_sent (q := rdresRequest) rfl hc hp,
    fun v => ⟨fun hv => ?_, fun hv => ?_⟩⟩
  · have himage : s.image.imageBytes = 0x00 :: payload := him
    exact issueTransaction_sent (by rw [State.cfgRequest, himage]) hc hp
  · have hclear : busWrite [0x1C, 0#1 ++ v] = s.clearRequest := busWrite_payload_inj.mpr (append_eq_clearPayload.mpr hv)
    have hset : busWrite [0x1C, 1#1 ++ v] = s.setRequest := busWrite_payload_inj.mpr (append_eq_setPayload.mpr hv)
    exact ⟨fun hc => issueTransaction_sent hclear hc hp, fun hc => issueTransaction_sent hset hc hp,
      fun hc => issueTransaction_sent hclear hc hp⟩
  · have hclear : busWrite [0x1C, 0#1 ++ v] ≠ s.clearRequest := fun h =>
      hv (append_eq_clearPayload.mp (busWrite_payload_inj.mp h))
    have hset : busWrite [0x1C, 1#1 ++ v] ≠ s.setRequest := fun h =>
      hv (append_eq_setPayload.mp (busWrite_payload_inj.mp h))
    exact ⟨issueTransaction_other hclear, issueTransaction_other hset, issueTransaction_other hclear⟩

/-! ### The wait steps and the reserved step -/

/-- Every wait step is the leaving of its state for the next (R217, R221, R225). -/
theorem exec_waitStep {st after : BitVec 4} {leave : Instr} (h : (st, leave, after) ∈ waitSteps) (s : State) :
    exec leave s = leaveWait st after s := by
  simp only [waitSteps, List.mem_cons, Prod.mk.injEq, List.not_mem_nil, or_false] at h
  rcases h with ⟨rfl, rfl, rfl⟩ | ⟨rfl, rfl, rfl⟩ | ⟨rfl, rfl, rfl⟩ <;> rfl

/-- Settles O29: TEXP decides whether the state is left. -/
theorem waitStepsLeaveWhenTheDelayHasEnded : Obligations.WaitStepsLeaveWhenTheDelayHasEnded := by
  intro s st leave after h hc
  rw [exec_waitStep h]
  exact ⟨fun ht => if_pos ⟨hc, ht⟩, fun ht => if_neg (by simp [ht])⟩

/-- Settles O53: the row's meaning reads no state. -/
theorem reservedStepFaultsWhereverItIsPresented : Obligations.ReservedStepFaultsWhereverItIsPresented :=
  fun _ _ => rfl

/-! ### A CONFIGURE with unwritten inputs -/

/-- With the same values marked written, an accepted CONFIGURE does the same but for the record (R185; log 1). -/
theorem acceptConfigure_unwritten {s u : State} (hs : s.inputsWritten = false)
    (hu : (s.withInputsOf u).inputsWritten = true) (hr : (s.withInputsOf u).request = s.request) :
    s.acceptConfigure = { (s.withInputsOf u).acceptConfigure.withInputsOf s with
      unwrittenRead := s.unwrittenRead.or (some .configure) } := by
  have hnote : s.noteInputs = s.recordUnwritten .configure := by simp [State.noteInputs, hs]
  simp only [State.acceptConfigure, noteInputs_of_written hu, hr, hnote]
  cases dchk s.request with
  | some k => rfl
  | none =>
    simp only [State.recordUnwritten, State.acceptCommand, State.storePlan, State.enterCfgWrite, State.withInputsOf]

/-- Settles O19: the other state is this one with other inputs. -/
theorem configureWithAnUnwrittenInputIsRecorded : Obligations.ConfigureWithAnUnwrittenInputIsRecorded := by
  intro s w t hidle hs hw hr hsame h
  have hsame : w = s.withInputsOf w := hsame
  obtain ⟨-, rfl⟩ := exec_cmdConfigure_next h
  have key := acceptConfigure_unwritten (u := w) hs (hsame ▸ hw) (hsame ▸ hr)
  rw [← hsame] at key
  rw [exec_cmdConfigure_idle hidle, key]
  rfl

end Sys2Proof.Machine
end

section
/-! What a step leaves alone (R22, R23, R30, R73, R250): one case analysis of the moves for each group of registers. -/

namespace Sys2Proof.Machine

/-! ### STATE and the results -/

/-- Settles O33: the turns of the transport and of time keep STATE, and a move follows the table. -/
theorem controlStateFollowsTheTable : Obligations.ControlStateFollowsTheTable := by
  intro s t h hr
  obtain ⟨hreset, -⟩ | ⟨-, -, ⟨d, -, rfl⟩ | ⟨-, rfl⟩ | ⟨-, hm⟩⟩ := step_cases h
  · exact absurd hreset hr
  · exact .inl (by simp)
  · exact .inl (by simp)
  · exact hm.ctl_eq_or_edge

/-- A step that is no reset makes a plan, from IDLE to CFG_WRITE, or keeps the results and the image. -/
theorem step_plan_or_keepsResults {s t : State} (h : step s = .next t) (hr : s.agenda.head? ≠ some .reset) :
    (s.ctl = 0 ∧ t.ctl = 1) ∨ s.keepsResults t := by
  obtain ⟨hreset, -⟩ | ⟨-, -, ⟨d, -, rfl⟩ | ⟨-, rfl⟩ | ⟨-, hm⟩⟩ := step_cases h
  · exact absurd hreset hr
  · rw [transportTurn_frame]; exact .inr s.keepsResults_refl
  · rw [timeTurn_frame]; exact .inr s.keepsResults_refl
  · obtain ⟨hc, rfl⟩ | hk := hm.plan_or_keepsResults
    · exact .inl ⟨hc, rfl⟩
    · exact .inr hk

/-- Settles O36: every step but the one that makes a plan keeps the results. -/
theorem resultsChangeOnlyWhenAPlanIsMade : Obligations.ResultsChangeOnlyWhenAPlanIsMade := by
  intro s t h hr hplan
  obtain ⟨hfb, hsd, h1, h2, h3, h4, hiw, him⟩ := (step_plan_or_keepsResults h hr).resolve_left hplan
  exact ⟨hfb, hsd, h1, h2, h3, h4, hiw, fun i => by rw [him]⟩

/-! ### The calibration registers -/

/-- A move keeps CAL_V, or is the successful step 1, which writes it (R23, R212). -/
theorem Moves.calV_cases {s t : State} (h : Moves s t) :
    t.calV = s.calV ∨ (s.ctl = 2 ∧ t.ctl = 3 ∧ ∃ v, s.resp = .ok [v] ∧ t.calV = ⟨v, true⟩) := by
  cases h with
  | rdctrlOk v h _ hr => exact .inr ⟨h, rfl, v, hr, rfl⟩
  | setInput a d _ h => left; rw [setInput_frame h]; rfl
  | hostRead a r _ => left; rw [hostRead_frame]; rfl
  | _ => left; simp

/-- A move keeps CAL_S and VCO_BAND, or is the successful step 5, which writes both (R23, R232). -/
theorem Moves.calS_cases {s t : State} (h : Moves s t) :
    (t.calS = s.calS ∧ t.vcoBand = s.vcoBand) ∨
      (s.ctl = 9 ∧ t.ctl = 0 ∧ ∃ v, s.resp = .ok [v] ∧ t.calS = ⟨v, true⟩ ∧ t.vcoBand = ⟨v.extractLsb' 3 5, true⟩) := by
  cases h with
  | rdresOk v h _ hr => exact .inr ⟨h, rfl, v, hr, rfl, rfl⟩
  | setInput a d _ h => left; rw [setInput_frame h]; exact ⟨rfl, rfl⟩
  | hostRead a r _ => left; rw [hostRead_frame]; exact ⟨rfl, rfl⟩
  | _ => left; simp

/-- Settles O37: the turns of the transport and of time keep the registers, and of the moves only the two reads write
them. -/
theorem calibrationRegistersChangeOnlyInTheirSteps : Obligations.CalibrationRegistersChangeOnlyInTheirSteps := by
  intro s t h hr
  obtain ⟨hreset, -⟩ | ⟨-, -, ⟨d, -, rfl⟩ | ⟨-, rfl⟩ | ⟨-, hm⟩⟩ := step_cases h
  · exact absurd hreset hr
  · rw [transportTurn_frame]; exact ⟨.inl rfl, .inl ⟨rfl, rfl⟩⟩
  · rw [timeTurn_frame]; exact ⟨.inl rfl, .inl ⟨rfl, rfl⟩⟩
  · exact ⟨hm.calV_cases, hm.calS_cases⟩

/-! ### The settle delays -/

/-- A move in a wait state with nothing outstanding issues nothing, and leaves the state only with TEXP = 1 (R73). -/
theorem Moves.wait_kept {s t : State} (h : Moves s t) (hw : waitState s.ctl = true) (hp : s.txp = false) :
    t.txp = false ∧ t.txreq = s.txreq ∧ (s.texp = false → t.ctl = s.ctl) := by
  have idle : s.ctl ≠ Ctl.idle := fun hc => by rw [hc] at hw; cases hw
  have answered : s.txp ≠ true := fun h => nomatch hp.symm.trans h
  cases h with
  | stay => exact ⟨hp, rfl, fun _ => rfl⟩
  | setInput a d _ h => rw [setInput_frame h]; exact ⟨hp, rfl, fun _ => rfl⟩
  | hostRead a r _ => rw [hostRead_frame]; exact ⟨hp, rfl, fun _ => rfl⟩
  | leave st w _ _ ht => exact ⟨hp, rfl, fun hf => nomatch hf.symm.trans ht⟩
  | issue q _ h => exact nomatch (waitState_of_request h).symm.trans hw
  | domainError k h _ => exact absurd h idle
  | plan h _ => exact absurd h idle
  | calibrate h => exact absurd h idle
  | cfgOk _ h _ => exact absurd h answered
  | rdctrlOk v _ h _ => exact absurd h answered
  | writeOk st w _ _ h _ => exact absurd h answered
  | rdresOk v _ h _ => exact absurd h answered
  | fail st code indet _ _ h _ => exact absurd h answered

/-- No move sets TEXP (R262). -/
theorem Moves.texp_mono {s t : State} (h : Moves s t) (ht : t.texp = true) : s.texp = true := by
  cases h with
  | setInput a d _ h => rw [setInput_frame h] at ht; exact ht
  | hostRead a r _ => rw [hostRead_frame] at ht; exact ht
  | writeOk st w _ _ _ _ => cases ht
  | leave st w _ _ h => exact h
  | _ => simpa using ht

/-- The turn of time sets TEXP in a wait state only (R262). -/
theorem waitState_of_timeTurn {s : State} (hf : s.texp = false) (ht : s.timeTurn.texp = true) :
    waitState s.ctl = true := by
  unfold State.timeTurn at ht
  split at ht
  · next hg => exact hg.1
  · exact nomatch hf.symm.trans ht

/-- Settles O39: the turns of the transport and of time issue nothing and keep STATE, and only the latter sets TEXP. -/
theorem settleDelaysAreKept : Obligations.SettleDelaysAreKept := by
  intro s t h hr
  obtain ⟨hreset, -⟩ | ⟨-, -, ⟨d, -, rfl⟩ | ⟨htime, rfl⟩ | ⟨-, hm⟩⟩ := step_cases h
  · exact absurd hreset hr
  · refine ⟨fun _ hp => by simp [hp], fun hf ht => ?_⟩
    rw [transportTurn_frame] at ht
    exact nomatch hf.symm.trans ht
  · exact ⟨fun _ hp => by simp [hp], fun hf ht => ⟨htime, waitState_of_timeTurn (s := s.popped) hf ht⟩⟩
  · exact ⟨fun hw hp => hm.wait_kept hw hp, fun hf ht => nomatch hf.symm.trans (hm.texp_mono ht)⟩

/-! ### The recorded fault -/

/-- A move keeps a record that is there (R250). -/
theorem Moves.unwrittenRead_kept {s t : State} {m : UnwrittenRead} (h : Moves s t) (hm : s.unwrittenRead = some m) :
    t.unwrittenRead = some m := by
  cases h with
  | setInput a d _ h => rw [setInput_inputs h]; exact hm
  | hostRead a r _ => split <;> simp [hm]
  | domainError k _ _ => simp [hm]
  | plan _ _ => simp [hm]
  | _ => simpa using hm

/-- Settles O40: neither the other turns nor a reset touch the record, and no move clears it. -/
theorem recordedFaultIsNeverCleared : Obligations.RecordedFaultIsNeverCleared := by
  intro s t m h hm
  obtain ⟨-, rfl⟩ | ⟨-, -, ⟨d, -, rfl⟩ | ⟨-, rfl⟩ | ⟨-, hmove⟩⟩ := step_cases h
  · exact hm
  · rw [transportTurn_frame]; exact hm
  · rw [timeTurn_frame]; exact hm
  · exact hmove.unwrittenRead_kept hm

end Sys2Proof.Machine
end

section
/-! What a whole command issues (R194, R235). A running command has a sequence of transactions, STATE and TXP say how
many of them have been issued, and a run keeps the two in agreement. -/

namespace Sys2Proof.Machine

/-! ### The sequence of a running command -/

/-- The transactions of the running command: the image, or the five of the calibration with CAL_V as it is (R194,
R235). -/
def State.commandSequence (s : State) : List TxReq :=
  if s.ctl = Ctl.cfgWrite then [s.cfgRequest] else calibrationSequence s.calV.val

/-- How many of them come before the states of STATE. -/
def issuedBefore (c : BitVec 4) : Nat :=
  match c.toNat with
  | 3 => 1
  | 4 => 2
  | 5 => 2
  | 6 => 3
  | 7 => 3
  | 8 => 4
  | 9 => 4
  | _ => 0

/-- How many of them have been issued. -/
def State.issuedCount (s : State) : Nat := issuedBefore s.ctl + s.txp.toNat

/-- `issued` is what the running command must have issued in `s`, and no transaction is outstanding in a wait state. -/
structure State.HasIssued (s : State) (issued : List TxReq) : Prop where
  issued_eq : issued = s.commandSequence.take s.issuedCount
  no_wait : s.txp = true → waitState s.ctl = false

theorem issuedBy_of_txp_eq_false {s t : State} (h : t.txp = false) : issuedBy s t = [] := by
  simp [issuedBy, h]

theorem issuedBy_of_txp_eq {s t : State} (h : t.txp = s.txp) : issuedBy s t = [] := by
  cases hs : s.txp <;> simp [issuedBy, h, hs]

/-- A move that keeps STATE, TXP, CAL_V and the image issues nothing. -/
theorem State.HasIssued.of_frame {s t : State} {l : List TxReq} (h : s.HasIssued l) (hc : t.ctl = s.ctl)
    (hp : t.txp = s.txp) (hv : t.calV = s.calV) (him : t.image = s.image) : t.HasIssued (l ++ issuedBy s t) where
  issued_eq := by
    rw [issuedBy_of_txp_eq hp, List.append_nil, h.issued_eq]
    simp only [State.commandSequence, State.cfgRequest, State.issuedCount, hc, hp, hv, him]
  no_wait := by rw [hc, hp]; exact h.no_wait

/-- The request of a state is the next of its sequence. -/
theorem commandSequence_getElem? {s : State} {q : TxReq} (h : s.requestOfState = some q) :
    s.commandSequence[issuedBefore s.ctl]? = some q := by
  obtain ⟨hc, rfl⟩ | ⟨hc, rfl⟩ | ⟨hc | hc, rfl⟩ | ⟨hc, rfl⟩ | ⟨hc, rfl⟩ := requestOfState_eq_some h <;>
    simp only [State.commandSequence, hc] <;> rfl

theorem State.HasIssued.issue {s : State} {l : List TxReq} {q : TxReq} (h : s.HasIssued l) (hp : s.txp = false)
    (hq : s.requestOfState = some q) : (s.issue q).HasIssued (l ++ issuedBy s (s.issue q)) where
  issued_eq := by
    have hnext := commandSequence_getElem? hq
    have hl : l = s.commandSequence.take (issuedBefore s.ctl) := by simpa [State.issuedCount, hp] using h.issued_eq
    have htake : (s.issue q).commandSequence.take (s.issue q).issuedCount =
        s.commandSequence.take (issuedBefore s.ctl + 1) := rfl
    rw [htake, List.take_add_one, hnext, hl]
    simp [issuedBy, hp]
  no_wait := fun _ => waitState_of_request hq

/-- Each wait state comes after the transaction of the state before it. -/
theorem issuedBefore_wait_entry {st w : BitVec 4} (h : (st, w) ∈ [(Ctl.calClr1, Ctl.calWait1),
    (Ctl.calSet, Ctl.calWait2), (Ctl.calClr2, Ctl.calWait3)]) : issuedBefore w = issuedBefore st + 1 := by
  revert st w; decide

theorem issuedBefore_wait_end {st w : BitVec 4} (h : (st, w) ∈ [(Ctl.calWait1, Ctl.calSet),
    (Ctl.calWait2, Ctl.calClr2), (Ctl.calWait3, Ctl.calRdres)]) :
    issuedBefore w = issuedBefore st ∧ waitState st = true := by
  revert st w; decide

/-- Past step 1 the sequence depends on CAL_V alone. -/
theorem commandSequence_calibrating {s : State} (h : 2 ≤ s.ctl.toNat) :
    s.commandSequence = calibrationSequence s.calV.val :=
  if_neg fun e => by simp [e] at h

/-- A move within a running command keeps the agreement (R72, R194, R235). -/
theorem State.HasIssued.moves {s t : State} {l : List TxReq} (h : s.HasIssued l) (hs : s.ctl ≠ Ctl.idle)
    (m : Moves s t) (ht : t.ctl ≠ Ctl.idle) : t.HasIssued (l ++ issuedBy s t) := by
  cases m with
  | stay => exact h.of_frame rfl rfl rfl rfl
  | setInput a d _ ht => rw [setInput_frame ht]; exact h.of_frame rfl rfl rfl rfl
  | hostRead a r _ => rw [hostRead_frame]; exact h.of_frame rfl rfl rfl rfl
  | domainError k hc _ => exact absurd hc hs
  | plan hc _ => exact absurd hc hs
  | calibrate hc => exact absurd hc hs
  | issue q hp hq => exact h.issue hp hq
  | cfgOk _ _ _ => exact absurd rfl ht
  | rdresOk v _ _ _ => exact absurd rfl ht
  | fail st code indet _ _ _ _ => exact absurd rfl ht
  | rdctrlOk v hc hp _ =>
    refine ⟨?_, nofun⟩
    rw [issuedBy_of_txp_eq_false rfl, List.append_nil, h.issued_eq, State.commandSequence, State.issuedCount, hc, hp]
    rfl
  | writeOk st w hw hc hp _ =>
    obtain ⟨hst, hwl⟩ := wait_entries_calibrate hw
    refine ⟨?_, nofun⟩
    rw [issuedBy_of_txp_eq_false rfl, List.append_nil, h.issued_eq, commandSequence_calibrating (by rw [hc]; omega),
      commandSequence_calibrating (show 2 ≤ w.toNat by omega), State.issuedCount, State.issuedCount, hc, hp]
    simp [issuedBefore_wait_entry hw]
  | leave st w hw hc _ =>
    obtain ⟨hst, hwl⟩ := wait_ends_calibrate hw
    obtain ⟨hbefore, hwait⟩ := issuedBefore_wait_end hw
    have hp : s.txp = false := Bool.eq_false_iff.mpr fun hp => nomatch (h.no_wait hp).symm.trans (hc.symm ▸ hwait :)
    refine ⟨?_, fun hp' => nomatch hp.symm.trans hp'⟩
    rw [issuedBy_of_txp_eq_false (by simpa using hp), List.append_nil, h.issued_eq,
      commandSequence_calibrating (by rw [hc]; omega), commandSequence_calibrating (show 2 ≤ w.toNat by omega),
      State.issuedCount, State.issuedCount, hc]
    simp [hbefore]

/-! ### Runs through busy states -/

/-- A step to a busy state is no reset. -/
theorem no_reset_of_busy {s t : State} (h : step s = .next t) (ht : t.busy = true) :
    s.agenda.head? ≠ some .reset := by
  intro hr
  cases ha : s.agenda with
  | nil => simp [ha] at hr
  | cons turn rest =>
    obtain rfl : turn = .reset := by simpa [ha] using hr
    rw [step_reset ha] at h
    cases h
    cases ht

theorem State.HasIssued.step {s t : State} {l : List TxReq} (h : s.HasIssued l) (hs : s.ctl ≠ Ctl.idle)
    (hst : step s = .next t) (ht : t.busy = true) : t.HasIssued (l ++ issuedBy s t) := by
  obtain ⟨hr, -⟩ | ⟨-, -, ⟨d, -, rfl⟩ | ⟨-, rfl⟩ | ⟨-, hm⟩⟩ := step_cases hst
  · exact absurd hr (no_reset_of_busy hst ht)
  · rw [transportTurn_frame]; exact h.of_frame rfl rfl rfl rfl
  · rw [timeTurn_frame]; exact h.of_frame rfl rfl rfl rfl
  · have hpop : s.popped.HasIssued l := ⟨h.issued_eq, h.no_wait⟩
    exact hpop.moves hs hm (busy_iff.mp ht)

theorem busy_of_busyRun {n : Nat} {s t : State} {issued : List TxReq} (h : busyRun n s = some (issued, t)) :
    s.busy = true := by
  by_contra hs
  cases n <;> rw [busyRun, if_neg hs] at h <;> cases h

/-- What holds at the start of a run and is kept by each step between busy states, with what that step issues, holds
at its end. -/
theorem busyRun_induction {P : State → List TxReq → Prop}
    (hstep : ∀ s t l, P s l → s.busy = true → step s = .next t → t.busy = true → P t (l ++ issuedBy s t))
    {n : Nat} {s t : State} {l issued : List TxReq} (h : P s l) (hrun : busyRun n s = some (issued, t)) :
    P t (l ++ issued) ∧ t.busy = true := by
  have hs := busy_of_busyRun hrun
  induction n generalizing s l issued with
  | zero =>
    rw [busyRun, if_pos hs] at hrun
    cases hrun
    simpa using ⟨h, hs⟩
  | succ n ih =>
    rw [busyRun, if_pos hs] at hrun
    cases hnext : step s with
    | fault r => simp [hnext] at hrun
    | refused r => simp [hnext] at hrun
    | next u =>
      simp only [hnext, Option.map_eq_some_iff, Prod.exists, Prod.mk.injEq] at hrun
      obtain ⟨issued', t', hrest, rfl, rfl⟩ := hrun
      have hu := busy_of_busyRun hrest
      simpa using ih (hstep s u l h hs hnext hu) hrest hu

/-! ### How a command ends -/

/-- The edges of the table between busy states stay within a command. -/
theorem controlEdges_same_command {c c' : BitVec 4} (h : (c, c') ∈ controlEdges) (hc : c ≠ Ctl.idle)
    (hc' : c' ≠ Ctl.idle) : 2 ≤ c.toNat ∧ 2 ≤ c'.toNat := by
  revert c c'; decide

/-- A step between busy states stays within its command: STATE is kept or both states are the calibration's. -/
theorem step_same_command {s t : State} (h : step s = .next t) (hs : s.busy = true) (ht : t.busy = true) :
    t.ctl = s.ctl ∨ (2 ≤ s.ctl.toNat ∧ 2 ≤ t.ctl.toNat) :=
  (controlStateFollowsTheTable s t h (no_reset_of_busy h ht)).imp_right fun he =>
    controlEdges_same_command he (busy_iff.mp hs) (busy_iff.mp ht)

/-- Between busy states the image is kept (R60). -/
theorem step_cfgRequest {s t : State} (h : step s = .next t) (hs : s.busy = true) (ht : t.busy = true) :
    t.cfgRequest = s.cfgRequest := by
  obtain ⟨hc, -⟩ | ⟨-, -, -, -, -, -, -, himage⟩ := step_plan_or_keepsResults h (no_reset_of_busy h ht)
  · exact absurd hc (busy_iff.mp hs)
  · rw [State.cfgRequest, himage, State.cfgRequest]

/-- A running command ends, but for a reset, with its last transaction answered OK, or with a TransportError (R191,
R232, R251). -/
theorem Moves.end_cases {s t : State} (h : Moves s t) (hs : s.ctl ≠ Ctl.idle) (ht : t.ctl = Ctl.idle) :
    s.txp = true ∧
      (((s.ctl = Ctl.cfgWrite ∨ s.ctl = Ctl.calRdres) ∧ t.status.result = ResultCode.ok) ∨
        ∃ code indet, (s.ctl, code, indet) ∈ errorReports ∧ t.status = s.status.transportError code indet) := by
  cases h with
  | stay => exact absurd ht hs
  | setInput a d _ h => exact absurd ((setInput_ctl h).symm.trans ht) hs
  | hostRead a r _ => rw [hostRead_frame] at ht; exact absurd ht hs
  | issue q _ _ => exact absurd ht hs
  | domainError k h _ => exact absurd h hs
  | plan h _ => exact absurd h hs
  | calibrate h => exact absurd h hs
  | cfgOk h hp _ => exact ⟨hp, .inl ⟨.inl h, rfl⟩⟩
  | rdresOk v h hp _ => exact ⟨hp, .inl ⟨.inr h, rfl⟩⟩
  | fail st code indet hf h hp _ => exact ⟨hp, .inr ⟨code, indet, h ▸ hf, rfl⟩⟩
  | rdctrlOk v _ _ _ => cases ht
  | writeOk st w hw _ _ _ =>
    have hw := (wait_entries_calibrate hw).2
    rw [State.enterWait_ctl] at ht
    simp [ht] at hw
  | leave st w hw _ _ =>
    have hw := (wait_ends_calibrate hw).2
    rw [State.leaveTo_ctl] at ht
    simp [ht] at hw

theorem step_end_cases {s t : State} (h : step s = .next t) (hr : s.agenda.head? ≠ some .reset)
    (hs : s.busy = true) (ht : t.busy = false) :
    s.txp = true ∧
      (((s.ctl = Ctl.cfgWrite ∨ s.ctl = Ctl.calRdres) ∧ t.status.result = ResultCode.ok) ∨
        ∃ code indet, (s.ctl, code, indet) ∈ errorReports ∧ t.status = s.status.transportError code indet) := by
  have hidle := not_busy_iff.mp ht
  have hctl := busy_iff.mp hs
  obtain ⟨hreset, -⟩ | ⟨-, -, ⟨d, -, rfl⟩ | ⟨-, rfl⟩ | ⟨-, hm⟩⟩ := step_cases h
  · exact absurd hreset hr
  · exact absurd (by simpa using hidle) hctl
  · exact absurd (by simpa using hidle) hctl
  · exact hm.end_cases hctl hidle

/-- The STEP code of a failure counts the calibration's transactions up to the failed one; it is 0 in CFG_WRITE
(R27). -/
theorem step_of_errorReports {c : BitVec 4} {code : BitVec 3} {indet : Bool} (h : (c, code, indet) ∈ errorReports) :
    (c = Ctl.cfgWrite ∧ code = 0) ∨
      (c ≠ Ctl.cfgWrite ∧ 1 ≤ code.toNat ∧ code.toNat ≤ 5 ∧ code.toNat = issuedBefore c + 1) := by
  revert c code indet; decide

/-- Settles O41: at the end of a calibration's run its last transaction has been issued, and it is the fifth or the one
that failed. -/
theorem calibrationIssuesTheFiveTransactions : Obligations.CalibrationIssuesTheFiveTransactions := by
  intro n s issued t u hc hp hrun hstep hu hr
  have hstart : s.HasIssued [] ∧ 2 ≤ s.ctl.toNat :=
    ⟨⟨by simp [State.issuedCount, hc, hp, issuedBefore], fun h => nomatch hp.symm.trans h⟩, by simp [hc]⟩
  obtain ⟨⟨hissued, hcal⟩, hbusy⟩ := busyRun_induction (P := fun s l => s.HasIssued l ∧ 2 ≤ s.ctl.toNat)
    (fun s t l ⟨h, h2⟩ hs hst ht => ⟨h.step (busy_iff.mp hs) hst ht,
      (step_same_command hst hs ht).elim (fun e => e ▸ h2) And.right⟩) hstart hrun
  have htake := hissued.issued_eq
  rw [List.nil_append, commandSequence_calibrating hcal] at htake
  obtain ⟨htxp, ⟨hlast, hok⟩ | ⟨code, indet, hrep, hstatus⟩⟩ := step_end_cases hstep hr hbusy hu
  · obtain hcfg | hres := hlast
    · simp [hcfg] at hcal
    · rw [State.issuedCount, hres, htxp] at htake
      exact .inl ⟨hok, htake⟩
  · obtain ⟨hcfg, -⟩ | ⟨-, h1, h5, hcode⟩ := step_of_errorReports hrep
    · simp [hcfg] at hcal
    · rw [State.issuedCount, htxp, Bool.toNat_true, ← hcode] at htake
      rw [hstatus]
      exact .inr ⟨rfl, h1, h5, htake⟩

/-- Settles O42: the run stays in CFG_WRITE, where the image is kept, and ends with its one transaction answered. -/
theorem configurationIssuesOneTransaction : Obligations.ConfigurationIssuesOneTransaction := by
  intro n s issued t u hc hp hrun hstep hu hr
  have hstart : s.HasIssued [] ∧ s.ctl = 1 ∧ s.cfgRequest = s.cfgRequest :=
    ⟨⟨by simp [State.issuedCount, hc, hp, issuedBefore], fun h => nomatch hp.symm.trans h⟩, hc, rfl⟩
  obtain ⟨⟨hissued, hcfg, himage⟩, hbusy⟩ := busyRun_induction
    (P := fun t l => t.HasIssued l ∧ t.ctl = 1 ∧ t.cfgRequest = s.cfgRequest)
    (fun a b l ⟨h, hctl, hreq⟩ ha hst hb => ⟨h.step (busy_iff.mp ha) hst hb,
      ((step_same_command hst ha hb).resolve_right (by simp [hctl])).trans hctl,
      (step_cfgRequest hst ha hb).trans hreq⟩) hstart hrun
  have htake := hissued.issued_eq
  obtain ⟨htxp, hend⟩ := step_end_cases hstep hr hbusy hu
  rw [List.nil_append, State.commandSequence, if_pos hcfg, State.issuedCount, hcfg, htxp, himage] at htake
  refine ⟨?_, htake⟩
  obtain ⟨-, hok⟩ | ⟨code, indet, hrep, hstatus⟩ := hend
  · exact .inl hok
  · obtain ⟨-, rfl⟩ | ⟨hne, -⟩ := step_of_errorReports hrep
    · rw [hstatus]
      exact .inr ⟨rfl, rfl⟩
    · exact absurd hcfg hne

end Sys2Proof.Machine
end

section
/-! A running command ends (R262, R267): a measure of the rounds that are left, which each round of the block, the
transport and time makes smaller. -/

namespace Sys2Proof.Machine

/-! ### The measure -/

/-- The most rounds a command takes after the round that ends state `c`. -/
def roundsAfter (c : BitVec 4) : Nat :=
  match c.toNat with
  | 2 => 11
  | 3 => 9
  | 4 => 8
  | 5 => 6
  | 6 => 5
  | 7 => 3
  | 8 => 2
  | _ => 0

/-- What the block waits for in its state has come: the response, or the end of the delay (R83). -/
def State.ready (s : State) : Bool := (s.txp && s.resp != .empty) || (waitState s.ctl && s.texp)

/-- The most rounds that are left when a round begins: the state ends in this one or in the next. -/
def State.roundsLeft (s : State) : Nat := roundsAfter s.ctl + if s.ready then 1 else 2

/-- The same after the block's turn: what it now waits for, if anything, comes in the same round. -/
def State.roundsLeftAfterBlock (s : State) : Nat := roundsAfter s.ctl + if s.txp || waitState s.ctl then 1 else 2

/-- The command has ended and its result is reported (R26). -/
structure State.Ended (s : State) : Prop where
  idle : s.ctl = Ctl.idle
  quiet : s.txp = false
  reported : s.status.result ≠ ResultCode.none

/-- What the block's turn from `s` leaves: the end of the command, or fewer rounds. -/
def State.ProgressFrom (s t : State) : Prop :=
  t.Ended ∨ (t.busy = true ∧ t.roundsLeftAfterBlock < s.roundsLeft)

/-! ### The block's turn -/

/-- A legal busy state is a transaction state or a wait state (R30). -/
theorem busy_state_cases {c : BitVec 4} (hc : c ≠ Ctl.idle) (hl : c.toNat ≤ 9) :
    (∃ issue done, (c, issue, done) ∈ transactionSteps) ∨ ∃ leave after, (c, leave, after) ∈ waitSteps := by
  have key : ∀ c : BitVec 4, c ≠ Ctl.idle → c.toNat ≤ 9 →
      c ∈ transactionSteps.map Prod.fst ∨ c ∈ waitSteps.map Prod.fst := by decide
  simpa using key c hc hl

/-- Each issue step issues some request of its state (R190, R211). -/
theorem exec_issue {st : BitVec 4} {issue done : Instr} (h : (st, issue, done) ∈ transactionSteps) {s : State}
    (hc : s.ctl = st) (hp : s.txp = false) : ∃ q, exec issue s = .next (s.issue q) := by
  simp only [transactionSteps, List.mem_cons, Prod.mk.injEq, List.not_mem_nil, or_false] at h
  rcases h with ⟨rfl, rfl, rfl⟩ | ⟨rfl, rfl, rfl⟩ | ⟨rfl, rfl, rfl⟩ | ⟨rfl, rfl, rfl⟩ | ⟨rfl, rfl, rfl⟩ |
    ⟨rfl, rfl, rfl⟩ <;> exact ⟨_, issueStep_enabled hc hp _⟩

section
variable {s : State} (h : s.ControlInv) (hp : s.txp = true) (hr : s.resp ≠ .empty)
include h hp hr

/-- A response to the request of a state is FAIL, or OK with the bytes that the request asks for (R66, R193). -/
theorem State.ControlInv.resp_cases {q : TxReq} (hq : s.requestOfState = some q) :
    s.resp = .fail ∨ ∃ rbytes, s.resp = .ok rbytes ∧ rbytes.length = q.rlen := by
  obtain rfl : q = s.txreq := Option.some.inj (hq.symm.trans (h.txreq_of_state hp))
  cases hresp : s.resp with
  | empty => exact absurd hresp hr
  | fail => exact .inl rfl
  | ok rbytes => exact .inr ⟨rbytes, rfl, h.resp_length rbytes hresp⟩

/-- The complete step of a WRITE goes on, by its OK rule or its FAIL rule. -/
theorem completeWrite_goes_on {st : BitVec 4} {q : TxReq} {onOk onFail : State → State} {P : State → Prop}
    (hc : s.ctl = st) (hq : s.requestOfState = some q) (hlen : q.rlen = 0) (hOk : P (onOk s.consume))
    (hFail : P (onFail s)) : ∃ t, completeWrite st onOk onFail s = .next t ∧ P t := by
  obtain hfail | ⟨rbytes, hok, hl⟩ := h.resp_cases hp hr hq
  · exact ⟨_, completeWrite_fail hc hp hfail _ _, hFail⟩
  · obtain rfl := List.eq_nil_of_length_eq_zero (hl.trans hlen)
    exact ⟨_, completeWrite_ok hc hp hok _ _, hOk⟩

/-- The same of the complete step of a WRITE_READ. -/
theorem completeRead_goes_on {st : BitVec 4} {q : TxReq} {onOk : Byte → State → State} {onFail : State → State}
    {P : State → Prop} (hc : s.ctl = st) (hq : s.requestOfState = some q) (hlen : q.rlen = 1)
    (hOk : ∀ v, P (onOk v s.consume)) (hFail : P (onFail s)) : ∃ t, completeRead st onOk onFail s = .next t ∧ P t := by
  obtain hfail | ⟨rbytes, hok, hl⟩ := h.resp_cases hp hr hq
  · exact ⟨_, completeRead_fail hc hp hfail _ _, hFail⟩
  · obtain ⟨v, rfl⟩ := List.length_eq_one_iff.mp (hl.trans hlen)
    exact ⟨_, completeRead_ok hc hp hok _ _, hOk v⟩

/-- A complete step ends the command or goes on to the next state, with fewer rounds left. -/
theorem exec_done_progress {st : BitVec 4} {issue done : Instr} (hst : (st, issue, done) ∈ transactionSteps)
    (hc : s.ctl = st) : ∃ t, exec done s = .next t ∧ t.agenda = s.agenda ∧ s.ProgressFrom t := by
  have failed : ∀ code indet, (s.raiseTransportError code indet).agenda = s.agenda ∧
      s.ProgressFrom (s.raiseTransportError code indet) := fun code indet => ⟨rfl, .inl ⟨rfl, rfl, by simp⟩⟩
  have goes_on : ∀ {t : State} (c : BitVec 4), t.ctl = c → t.txp = false → c ≠ Ctl.idle →
      (roundsAfter c + if waitState c then 1 else 2) < roundsAfter st + 1 → s.ProgressFrom t := by
    intro t c ht hp' hne hlt
    refine .inr ⟨busy_iff.mpr (ht ▸ hne), ?_⟩
    simpa [State.roundsLeftAfterBlock, State.roundsLeft, State.ready, ht, hp', hc, hp, hr] using hlt
  simp only [transactionSteps, List.mem_cons, Prod.mk.injEq, List.not_mem_nil, or_false] at hst
  rcases hst with ⟨rfl, rfl, rfl⟩ | ⟨rfl, rfl, rfl⟩ | ⟨rfl, rfl, rfl⟩ | ⟨rfl, rfl, rfl⟩ | ⟨rfl, rfl, rfl⟩ |
    ⟨rfl, rfl, rfl⟩ <;>
  simp only [exec, execStepCfgDone, execStepRdctrlDone, execStepClr1Done, execStepSetDone, execStepClr2Done,
    execStepRdresDone]
  · exact completeWrite_goes_on h hp hr hc (q := s.cfgRequest) (by simp [State.requestOfState, hc]) rfl
      ⟨rfl, .inl ⟨rfl, rfl, by simp⟩⟩ (failed _ _)
  · exact completeRead_goes_on h hp hr hc (q := rdctrlRequest) (by simp [State.requestOfState, hc]) rfl
      (fun v => ⟨rfl, goes_on Ctl.calClr1 rfl rfl (by decide) (by decide)⟩) (failed _ _)
  · exact completeWrite_goes_on h hp hr hc (q := s.clearRequest) (by simp [State.requestOfState, hc]) rfl
      ⟨rfl, goes_on Ctl.calWait1 rfl rfl (by decide) (by decide)⟩ (failed _ _)
  · exact completeWrite_goes_on h hp hr hc (q := s.setRequest) (by simp [State.requestOfState, hc]) rfl
      ⟨rfl, goes_on Ctl.calWait2 rfl rfl (by decide) (by decide)⟩ (failed _ _)
  · exact completeWrite_goes_on h hp hr hc (q := s.clearRequest) (by simp [State.requestOfState, hc]) rfl
      ⟨rfl, goes_on Ctl.calWait3 rfl rfl (by decide) (by decide)⟩ (failed _ _)
  · exact completeRead_goes_on h hp hr hc (q := rdresRequest) (by simp [State.requestOfState, hc]) rfl
      (fun v => ⟨rfl, .inl ⟨rfl, rfl, by simp⟩⟩) (failed _ _)

end

theorem waitState_of_transactionSteps {st : BitVec 4} {issue done : Instr} (h : (st, issue, done) ∈ transactionSteps) :
    waitState st = false := by
  have key : ∀ p ∈ transactionSteps, waitState p.1 = false := by decide
  exact key _ h

/-- A wait state is left for a transaction state, with two rounds fewer to follow. -/
theorem waitSteps_progress {st after : BitVec 4} {leave : Instr} (h : (st, leave, after) ∈ waitSteps) :
    waitState st = true ∧ waitState after = false ∧ after ≠ Ctl.idle ∧ roundsAfter st = roundsAfter after + 2 := by
  have key : ∀ p ∈ waitSteps, waitState p.1 = true ∧ waitState p.2.2 = false ∧ p.2.2 ≠ Ctl.idle ∧
      roundsAfter p.1 = roundsAfter p.2.2 + 2 := by decide
  exact key _ h

/-- In a wait state nothing is outstanding. -/
theorem State.ControlInv.txp_of_wait {s : State} (h : s.ControlInv) (hw : waitState s.ctl = true) : s.txp = false :=
  Bool.eq_false_iff.mpr fun hp => nomatch (waitState_of_request (h.txreq_of_state hp)).symm.trans hw

/-- The block's turn in a busy state ends the command or leaves fewer rounds (R267). -/
theorem step_block_progress {s : State} {rest : List Turn} (h : s.ControlInv) (hb : s.busy = true)
    (ha : s.agenda = .block :: rest) : ∃ t, step s = .next t ∧ t.agenda = rest ∧ s.ProgressFrom t := by
  obtain ⟨-, htrans, hwait⟩ := blockStepIsSelectedByItsRegisters s rest (.inl ha)
  let u : State := { s with agenda := rest }
  have hu : u.ControlInv := h.withOutsideOf u
  obtain ⟨issue, done, hst⟩ | ⟨leave, after, hst⟩ := busy_state_cases (busy_iff.mp hb) h.ctl_legal
  · obtain ⟨hissue, hdone, hholds⟩ := htrans _ issue done hst rfl
    have hw := waitState_of_transactionSteps hst
    have progress : ∀ {t : State}, t.ctl = s.ctl → t.txp = true → s.ready = false → s.ProgressFrom t := fun hc hp hr =>
      .inr ⟨by rwa [State.busy, hc], by simp [State.roundsLeftAfterBlock, State.roundsLeft, hc, hp, hr]⟩
    cases hp : s.txp with
    | false =>
      obtain ⟨q, hq⟩ := exec_issue hst (s := u) rfl hp
      exact ⟨u.issue q, (hissue hp).trans hq, rfl, progress rfl rfl (by simp [State.ready, hp, hw])⟩
    | true =>
      by_cases hr : s.resp = .empty
      · exact ⟨u, hholds hp hr, rfl, progress rfl hp (by simp [State.ready, hr, hw])⟩
      · rw [hdone hp hr]
        exact exec_done_progress hu hp hr hst rfl
  · obtain ⟨hleave, hholds⟩ := hwait _ leave after hst rfl
    obtain ⟨hw, hw', hbusy, hrounds⟩ := waitSteps_progress hst
    have hp := h.txp_of_wait hw
    cases ht : s.texp with
    | true =>
      have hleft := (waitStepsLeaveWhenTheDelayHasEnded u _ leave after hst rfl).1 ht
      refine ⟨_, (hleave ht).trans hleft, rfl, .inr ⟨busy_iff.mpr hbusy, ?_⟩⟩
      simp [State.roundsLeftAfterBlock, State.roundsLeft, State.ready, hp, hw, hw', ht, hrounds, u]
    | false =>
      refine ⟨u, hholds ht, rfl, .inr ⟨hb, ?_⟩⟩
      simp [State.roundsLeftAfterBlock, State.roundsLeft, State.ready, hp, hw, ht, u]

/-! ### The rest of a round -/

/-- After the transport's turn an outstanding request is answered (R193). -/
theorem transportTurn_resp {s : State} (hp : s.txp = true) (d : Draw) : (s.transportTurn d).resp ≠ .empty := by
  unfold State.transportTurn
  split
  · cases d <;> simp [Draw.answer]
  · next hg => exact fun hr => hg ⟨hp, hr⟩

/-- After the turn of time a settle delay has ended (R262). -/
theorem timeTurn_texp {s : State} (hw : waitState s.ctl = true) : s.timeTurn.texp = true := by
  unfold State.timeTurn
  split
  · rfl
  · next hg => simpa [hw] using hg

/-- The turns of the transport and of time keep STATE, TXP and STATUS, and bring what the block waits for. -/
theorem step_transport_time {t : State} {d : Draw} {rest : List Turn} (hc : t.ctl.toNat ≤ 9)
    (ha : t.agenda = .transport d :: .time :: rest) :
    ∃ v u, step t = .next v ∧ step v = .next u ∧ u.agenda = rest ∧ u.ctl = t.ctl ∧ u.txp = t.txp ∧
      u.status = t.status ∧ ((t.txp || waitState t.ctl) = true → u.ready = true) := by
  let v := State.transportTurn { t with agenda := .time :: rest } d
  have hv : v = { t with agenda := .time :: rest, resp := v.resp } := transportTurn_frame _ d
  have hva : v.agenda = .time :: rest := by rw [hv]
  let u := State.timeTurn { v with agenda := rest }
  have hu : u = { t with agenda := rest, resp := v.resp, texp := u.texp } := by
    rw [show u = { v with agenda := rest, texp := u.texp } from timeTurn_frame _, hv]
  have hctl : u.ctl = t.ctl := by rw [hu]
  have htxp : u.txp = t.txp := by rw [hu]
  refine ⟨v, u, step_transport ha hc, step_time hva (by rw [hv]; exact hc), by rw [hu], hctl, htxp, by rw [hu],
    fun hwaits => ?_⟩
  obtain hp | hw := Bool.or_eq_true _ _ ▸ hwaits
  · have hv' : v.resp ≠ .empty := transportTurn_resp (s := { t with agenda := .time :: rest }) hp d
    have hresp : u.resp ≠ .empty := by rw [hu]; exact hv'
    simp [State.ready, htxp, hp, hresp]
  · have htexp : u.texp = true := timeTurn_texp (by rw [hv]; exact hw)
    simp [State.ready, hctl, hw, htexp]

/-! ### Rounds -/

/-- A step takes one from the fuel of a run, on any machine. -/
theorem core_run_succ (M : Host.Core) {s t : M.State} (h : M.step s = .next t) (k : Nat) :
    M.run (k + 1) s = M.run k t := by
  rw [Host.Core.run, h]

theorem run_succ {s t : State} (h : step s = .next t) (k : Nat) :
    Host.Core.run Sys2Proof.core (k + 1) s = Host.Core.run Sys2Proof.core k t :=
  core_run_succ Sys2Proof.core h k

/-- The command ends within `n` rounds. -/
def State.EndsWithin (n : Nat) (s : State) : Prop := s.Ended ∨ (s.busy = true ∧ s.roundsLeft ≤ n)

/-- A round of the block, the transport and time uses up one of the rounds left (R262, R267). -/
theorem round_progress {s : State} {d : Draw} {rest : List Turn} {n : Nat} (h : s.Inv) (hs : s.EndsWithin (n + 1))
    (ha : s.agenda = .block :: .transport d :: .time :: rest) :
    ∃ u, (∀ k, Host.Core.run Sys2Proof.core (k + 3) s = Host.Core.run Sys2Proof.core k u) ∧ u.agenda = rest ∧ u.Inv ∧
      u.EndsWithin n := by
  obtain ⟨t, hst, hta, ht⟩ : ∃ t, step s = .next t ∧ t.agenda = .transport d :: .time :: rest ∧
      (t.Ended ∨ (t.busy = true ∧ t.roundsLeftAfterBlock ≤ n)) := by
    obtain ⟨hidle, hquiet, hrep⟩ | ⟨hb, hn⟩ := hs
    · exact ⟨_, (blockStepIsSelectedByItsRegisters s _ (.inl ha)).1 hidle, rfl, .inl ⟨hidle, hquiet, hrep⟩⟩
    · obtain ⟨t, hst, hta, hp⟩ := step_block_progress h.control hb ha
      exact ⟨t, hst, hta, hp.imp_right fun ⟨hbt, hlt⟩ => ⟨hbt, by omega⟩⟩
  have htinv := everyStepKeepsTheInvariant s t h hst
  obtain ⟨v, u, htv, hvu, hua, hctl, htxp, hstatus, hready⟩ := step_transport_time htinv.control.ctl_legal hta
  have huinv := everyStepKeepsTheInvariant v u (everyStepKeepsTheInvariant t v htinv htv) hvu
  refine ⟨u, fun k => by rw [run_succ hst, run_succ htv, run_succ hvu], hua, huinv, ht.imp ?_ ?_⟩
  · rintro ⟨hidle, hquiet, hrep⟩
    exact ⟨hctl.trans hidle, htxp.trans hquiet, hstatus ▸ hrep⟩
  · rintro ⟨hbt, hn⟩
    refine ⟨by rwa [State.busy, hctl], ?_⟩
    rw [State.roundsLeftAfterBlock] at hn
    rw [State.roundsLeft, hctl]
    split at hn
    · next hw => simpa [hready hw] using hn
    · split <;> omega

/-- As many rounds as are left bring the command to its end. -/
theorem run_rounds {draws : List Draw} {s : State} (h : s.Inv) (hs : s.EndsWithin draws.length)
    (ha : s.agenda = draws.flatMap (fun d => [.block, .transport d, .time])) :
    ∃ t : State, Host.Core.run Sys2Proof.core (3 * draws.length) s = .next t ∧ t.Ended := by
  induction draws generalizing s with
  | nil =>
    obtain hend | ⟨-, hn⟩ := hs
    · exact ⟨s, rfl, hend⟩
    · have hpos : 0 < s.roundsLeft := by rw [State.roundsLeft]; split <;> omega
      simp at hn
      omega
  | cons d draws ih =>
    obtain ⟨u, hrun, hua, hu, hends⟩ := round_progress h hs ha
    obtain ⟨t, ht, hend⟩ := ih hu hends hua
    exact ⟨t, (hrun _).trans ht, hend⟩

theorem roundsLeft_le (s : State) : s.roundsLeft ≤ 13 := by
  have key : ∀ c : BitVec 4, roundsAfter c ≤ 11 := by decide
  have hc := key s.ctl
  rw [State.roundsLeft]
  split <;> omega

/-- Settles O43: no busy state has more than thirteen rounds left. -/
theorem answeredCommandEnds : Obligations.AnsweredCommandEnds := by
  intro s draws h hb hlen ha
  obtain ⟨t, hrun, hidle, -, hrep⟩ := run_rounds h (.inr ⟨hb, (roundsLeft_le s).trans hlen⟩) ha
  exact ⟨t, hrun, not_busy_iff.mpr hidle, hrep⟩

end Sys2Proof.Machine
end

section
/-! The calculator as arithmetic on natural numbers (R112 to R119), and the divider bits that PACK drops (R157). -/

namespace Sys2Proof.Machine

/-! ### The dividers -/

/-- Settles O44: each divider is a scaled quotient, and none is lost in 64 bits, whatever the request. -/
theorem dividersAreTruncatedQuotients : Obligations.DividersAreTruncatedQuotients :=
  fun _ _ => ⟨fbdiv_toNat _ _, odiv_toNat _ _, odiv_toNat _ _, odiv_toNat _ _, odiv_toNat _ _⟩

/-- The input that divides is positive once the zero check has passed. -/
theorem toNat_pos {x : Word} (h : x ≠ 0) : 0 < x.toNat :=
  Nat.pos_of_ne_zero fun h0 => h (BitVec.eq_of_toNat_eq h0)

/-- A scaled quotient is the scaled integer part and the quotient of the scaled remainder. -/
theorem scaled_div (a b k : Nat) (hb : 0 < b) : a * k / b = a / b * k + a % b * k / b := by
  conv_lhs => rw [← Nat.div_add_mod a b, Nat.add_mul, Nat.mul_assoc, Nat.mul_add_div hb]

/-- The fraction part of a scaled quotient is below the scale. -/
theorem scaled_mod_div_lt (a b k : Nat) (hb : 0 < b) (hk : 0 < k) : a % b * k / b < k :=
  Nat.div_lt_of_lt_mul (Nat.mul_lt_mul_of_pos_right (Nat.mod_lt a hb) hk)

section
variable {ref vco : Word} (href : ref ≠ 0)
include href

theorem fbdiv_integer : ((fbdiv ref vco).extractLsb' 32 32).toNat = vco.toNat / ref.toNat := by
  have hpos := toNat_pos href
  have hfrac := scaled_mod_div_lt vco.toNat ref.toNat (2 ^ 32) hpos (by decide)
  have hint : vco.toNat / ref.toNat < 2 ^ 32 := (Nat.div_le_self _ _).trans_lt vco.isLt
  rw [BitVec.extractLsb'_toNat, Nat.shiftRight_eq_div_pow, fbdiv_toNat, scaled_div _ _ _ hpos, Nat.mul_comm _ (2 ^ 32),
    Nat.mul_add_div (by decide), Nat.div_eq_of_lt hfrac, Nat.add_zero, Nat.mod_eq_of_lt hint]

theorem fbdiv_fraction :
    ((fbdiv ref vco).extractLsb' 0 32).toNat = vco.toNat % ref.toNat * 2 ^ 32 / ref.toNat := by
  have hpos := toNat_pos href
  have hfrac := scaled_mod_div_lt vco.toNat ref.toNat (2 ^ 32) hpos (by decide)
  rw [BitVec.extractLsb'_toNat, Nat.shiftRight_zero, fbdiv_toNat, scaled_div _ _ _ hpos, Nat.mul_add_mod_self_right,
    Nat.mod_eq_of_lt hfrac]

/-- The fraction part is 0 exactly when REF_HZ divides VCO_HZ (R115). -/
theorem fbdiv_fraction_eq_zero_iff : (fbdiv ref vco).extractLsb' 0 32 = 0 ↔ ref.toNat ∣ vco.toNat := by
  have hpos := toNat_pos href
  have href32 := ref.isLt
  rw [← BitVec.toNat_inj, fbdiv_fraction href, Nat.dvd_iff_mod_eq_zero, show (0 : Word).toNat = 0 from rfl,
    Nat.div_eq_zero_iff_lt hpos]
  generalize vco.toNat % ref.toNat = m
  omega

end

/-- Settles O45: the quotient is positive and within the scaled range, its two halves are its integer and fraction part,
and it is accurate as a truncated quotient. -/
theorem feedbackDividerRangeAndAccuracy : Obligations.FeedbackDividerRangeAndAccuracy := by
  intro r hd
  obtain ⟨href, hvco, -⟩ := dchk_eq_none.mp hd
  have hpos := toNat_pos href
  have hvpos := toNat_pos hvco
  have hr := r.ref.isLt
  have hv := r.vco.isLt
  have hfb : r.plan.fb.toNat = r.vco.toNat * 2 ^ 32 / r.ref.toNat := fbdiv_toNat _ _
  refine ⟨?_, ?_, fbdiv_integer href, fbdiv_fraction href, ?_, ?_⟩ <;> rw [hfb]
  · exact Nat.div_pos (by omega) hpos
  · exact (Nat.div_le_self _ _).trans (by omega)
  · exact Nat.div_mul_le_self _ _
  · rw [Nat.mul_comm _ r.ref.toNat]
    exact Nat.lt_mul_div_succ _ hpos

/-- Settles O46: a truncated quotient is accurate, and at most what it divides. -/
theorem outputDividerRangeAndAccuracy : Obligations.OutputDividerRangeAndAccuracy := by
  intro vco out hout
  have hpos := toNat_pos hout
  have hv := vco.isLt
  rw [odiv_toNat]
  refine ⟨Nat.div_mul_le_self _ _, ?_, (Nat.div_le_self _ _).trans (by omega)⟩
  rw [Nat.mul_comm _ out.toNat]
  exact Nat.lt_mul_div_succ _ hpos

/-- Settles O47: SD is Off exactly when FB has no fraction. -/
theorem sigmaDeltaOffIffExactMultiple : Obligations.SigmaDeltaOffIffExactMultiple := by
  intro r hd
  obtain ⟨href, -⟩ := dchk_eq_none.mp hd
  have hsd : r.plan.sd = if r.plan.fb.extractLsb' 0 32 = 0 then 0 else 3 := sdsel_eq _
  rw [← fbdiv_fraction_eq_zero_iff href, hsd, show r.plan.fb = fbdiv r.ref r.vco from rfl]
  split <;> simp_all

/-! ### The dropped bits -/

/-- Two words that agree on a range of bits agree on every part of it. -/
theorem extractLsb'_of_agree {x y : DWord} {a n k m : Nat} (h : x.extractLsb' a n = y.extractLsb' a n) (ha : a ≤ k)
    (hm : k + m ≤ a + n) : x.extractLsb' k m = y.extractLsb' k m := by
  refine BitVec.eq_of_getLsbD_eq fun i hi => ?_
  have hbit := congrArg (fun z => z.getLsbD (k - a + i)) h
  have hn : k - a + i < n := by omega
  have hk : a + (k - a + i) = k + i := by omega
  simpa only [BitVec.getLsbD_extractLsb', hn, hi, hk, decide_true, Bool.true_and] using hbit

/-- A channel's registers hold OD[43:2] alone (R151, R152, R157). -/
theorem channelRegisters_of_agree {c : Config} (hmask : c.odFracLowMask = 0xFC) (b : Nat) {x y : DWord}
    (h : x.extractLsb' 2 42 = y.extractLsb' 2 42) : channelRegisters c b x = channelRegisters c b y := by
  have part : ∀ {k m}, 2 ≤ k → k + m ≤ 44 → x.extractLsb' k m = y.extractLsb' k m := extractLsb'_of_agree h
  simp only [channelRegisters, hmask, lowFraction_masked]
  rw [part (k := 24) (by decide) (by decide), part (k := 16) (by decide) (by decide),
    part (k := 8) (by decide) (by decide), part (k := 2) (by decide) (by decide),
    part (k := 36) (by decide) (by decide), part (k := 32) (by decide) (by decide)]

/-- Settles O52: the computed registers, and so the image, are the same. -/
theorem imageIgnoresTheDroppedBits : Obligations.ImageIgnoresTheDroppedBits := by
  intro p q hsd hfb h1 h2 h3 h4
  have part : ∀ {k m}, 8 ≤ k → k + m ≤ 44 → p.fb.extractLsb' k m = q.fb.extractLsb' k m := extractLsb'_of_agree hfb
  have hregs : computedRegisters chip p = computedRegisters chip q := by
    simp only [computedRegisters, sigmaDeltaRegister, hsd]
    rw [part (k := 36) (by decide) (by decide), part (k := 32) (by decide) (by decide),
      part (k := 24) (by decide) (by decide), part (k := 16) (by decide) (by decide),
      part (k := 8) (by decide) (by decide), channelRegisters_of_agree rfl _ h1, channelRegisters_of_agree rfl _ h2,
      channelRegisters_of_agree rfl _ h3, channelRegisters_of_agree rfl _ h4]
  have hbyte : packByte chip p = packByte chip q := by
    funext i
    cases i with
    | zero => rfl
    | succ r => simp only [packByte, packRegister, hregs]
  rw [packBytes, packBytes, hbyte]

end Sys2Proof.Machine
end
